-- ==== Sys2Proof/Word.lean ====
section
/-! DEFINITION. The words of the snes2ps protocol core: the fixed-width quantities of `00_scope.md` R8 and R10.
Bit 0 is the least significant bit of each (R10). -/

namespace Sys2Proof

/-- A byte of the host bus, of the response frame, or of one analog-button channel (R8). -/
abbrev Byte := BitVec 8

/-- A 16-bit SNES snapshot: `raw` as sampled (active-low) or `S`, normalised to active-high (R75). -/
abbrev Snapshot := BitVec 16

/-- A 16-bit PlayStation-style ButtonMask, active-low: bit d = 0 means button d is pressed (R25, R76). -/
abbrev Mask := BitVec 16

/-- The decode key `K[10:0] = {ST[2:0], b[7:0]}` of an accepted host byte (R72). -/
abbrev Key := BitVec 11

/-- The AnalogButtonArray: 12 channels of one byte, channel index 0..11 (R8, R26, R77). -/
abbrev AnalogArray := Vector Byte 12

end Sys2Proof
end

