-- ==== Sys2Proof/Syntax.lean ====
section
/-! DEFINITION. What the core reads and executes, as syntax: the buttons of a snapshot, the sequencer states, the
mapping-table entries, the input events, the coded form of an event as the decoder sees it, and `Instr`, one
constructor per row of `spec/opcode_table.json`. -/

namespace Sys2Proof

/-- The twelve buttons of an SNES snapshot (`30_encoding.md` R75); their bit numbers are `Button.bit`. -/
inductive Button where
  | b | y | select | start | up | down | left | right | a | x | l | r
deriving DecidableEq, Repr

/-- The eight states of the Bus Responder's sequencer `ST` (`10_state.md` R22, `30_encoding.md` R74). -/
inductive SeqState where
  /-- waiting for the first byte of a session -/
  | idle
  /-- the start command was recognised -/
  | ready
  /-- SEND_BUTTONS_LOW -/
  | sendLo
  /-- SEND_BUTTONS_HIGH -/
  | sendHi
  /-- SEND_STICKS -/
  | sticks
  /-- SEND_ANALOG_BUTTONS -/
  | analog
  /-- the frame is over -/
  | done
  /-- "passive mode until deselect" -/
  | passive
deriving DecidableEq, Repr

/-- One entry `(sourceBit, destBit, analogChannel)` of a mapping table (`30_encoding.md` R78): bit and element
indices, so plain numbers; `ach = none` is the sentinel NONE, "digital-only, no analog channel". The bounds are
`WellFormed.lean`'s checks, the 12-bit packing is `Entry.pack` of `Decode.lean`. -/
structure Entry where
  src : Nat
  dst : Nat
  ach : Option Nat
deriving DecidableEq, Repr

/-- A mapping table: an ordered list of entries (R78). -/
abbrev Table := List Entry

/-- The table ROM `TABLES[1..7]` (`10_state.md` R33): element `t - 1` is table `t`. -/
abbrev Rom := Vector Table 7

/-- The input events of the core, each atomic (`30_encoding.md` R71, R87). -/
inductive Event where
  /-- power-on reset -/
  | por
  /-- the sampler delivers one raw (active-low) snapshot -/
  | snap (raw : Snapshot)
  /-- attention asserted: a session begins -/
  | select
  /-- attention deasserted: the session ends -/
  | deselect
  /-- one byte received from the host -/
  | rx (b : Byte)
deriving DecidableEq, Repr

/-- What the outside world presents at one instant: events that coincide, for the priorities of
`60_exceptions.md` R184-R186. `attn` is the new level of the attention line where it changes (one line has one edge,
so SELECT and DESELECT never coincide). -/
structure Instant where
  por  : Bool
  attn : Option Bool
  rx   : Option Byte
  snap : Option Snapshot
deriving DecidableEq, Repr

/-- An instant at which nothing happens. -/
def Instant.quiet : Instant := { por := false, attn := none, rx := none, snap := none }

/-- The instant that carries one event and nothing else. -/
def Instant.ofEvent : Event → Instant
  | .por      => { Instant.quiet with por := true }
  | .snap raw => { Instant.quiet with snap := some raw }
  | .select   => { Instant.quiet with attn := some true }
  | .deselect => { Instant.quiet with attn := some false }
  | .rx b     => { Instant.quiet with rx := some b }

/-- An event as the decoder sees it: its operand bits together with the state that changes decoding
(`30_encoding.md` R72, R86). A host byte carries its decode key `K` and the interface guard
(`CFG_DONE = 1` and `ATT = 1`); a snapshot carries `CFG_DONE`; the other events have no operand bits. -/
inductive Code where
  | hostByte (enabled : Bool) (key : Key)
  | por
  | snap (cfgDone : Bool) (raw : Snapshot)
  | select
  | deselect
deriving DecidableEq, Repr

/-- The instructions of the core: the decoded events, one constructor per row of the opcode table. A catch-all or
don't-care row keeps the byte it matched; `rxDisabled` keeps the whole key, since that row matches any key. -/
inductive Instr where
  | rxDisabled (key : Key)
  | rxIdleStart
  | rxIdleOther (b : Byte)
  | rxReadyRead
  | rxReadyOther (b : Byte)
  | rxSendLo (b : Byte)
  | rxSendHi (b : Byte)
  | rxStick (b : Byte)
  | rxAnalog (b : Byte)
  | rxDone (b : Byte)
  | rxPassive (b : Byte)
  | por
  | snapModesel (raw : Snapshot)
  | snapPublish (raw : Snapshot)
  | select
  | deselect
deriving DecidableEq, Repr

end Sys2Proof
end

