-- ==== Sys2Proof/WellFormed.lean ====
section
/-! DEFINITION. The well-formedness checks: of an instruction (the rows' own conditions on the byte, `30_encoding.md`
R73) and of a mapping table (the six named checks of R79), each with its name. Also the sourced constants of R7 and
the sizes of R8 that the checks need. -/

namespace Sys2Proof

/-- `START_CMD = 0x01`, "the host's first byte that selects this peripheral type" (`00_scope.md` R7). -/
def startCmd : Byte := 0x01#8

/-- `READ_CMD = 0x42`, "the "read data" command" (R7). -/
def readCmd : Byte := 0x42#8

/-- `N_ANALOG = 12` analog-button channels (R8). -/
abbrev nAnalog : Nat := 12

/-- An instruction is well formed when its operand is one its row admits: the two catch-all rows come after the exact
row of their state, so they never hold that row's byte (R73 rows 3 and 5; R143 "b != 0x01", R145 "b != 0x42"). -/
def Instr.wf : Instr → Bool
  | .rxDisabled _   => true
  | .rxIdleStart    => true
  | .rxIdleOther b  => b != startCmd
  | .rxReadyRead    => true
  | .rxReadyOther b => b != readCmd
  | .rxSendLo _     => true
  | .rxSendHi _     => true
  | .rxStick _      => true
  | .rxAnalog _     => true
  | .rxDone _       => true
  | .rxPassive _    => true
  | .por            => true
  | .snapModesel _  => true
  | .snapPublish _  => true
  | .select         => true
  | .deselect       => true

/-- The names of the table checks of `30_encoding.md` R79, in its order. -/
inductive TableCheck where
  | wfLen | wfSrc | wfDst | wfDstDisjoint | wfAch | wfAchDisjoint
deriving DecidableEq, Repr

/-- One check of R79 on one table.
`WF_LEN`: at most 16 entries. `WF_SRC`: every source is one of the twelve button bits 4..15. `WF_DST`: every
destination is in 0..15. `WF_DST_DISJOINT`: no two entries have the same destination. `WF_ACH`: every channel is in
0..11 or NONE. `WF_ACH_DISJOINT`: no two entries have the same channel other than NONE. -/
def TableCheck.holds (t : Table) : TableCheck → Bool
  | .wfLen         => decide (t.length ≤ 16)
  | .wfSrc         => t.all fun e => decide (4 ≤ e.src ∧ e.src ≤ 15)
  | .wfDst         => t.all fun e => decide (e.dst ≤ 15)
  | .wfDstDisjoint => decide (t.map Entry.dst).Nodup
  | .wfAch         => t.all fun e => e.ach.all fun c => decide (c < nAnalog)
  | .wfAchDisjoint => decide (t.filterMap Entry.ach).Nodup

/-- The six checks, in the order R79 names them. -/
def TableCheck.order : List TableCheck :=
  [.wfLen, .wfSrc, .wfDst, .wfDstDisjoint, .wfAch, .wfAchDisjoint]

/-- The first check of R79 that a table fails, if any. -/
def Table.failing (t : Table) : Option TableCheck :=
  TableCheck.order.find? fun c => !(c.holds t)

/-- A table passes all six checks of R79. -/
def Table.wf (t : Table) : Bool :=
  TableCheck.order.all fun c => c.holds t

/-- All seven tables pass (R79, R204 (1)). -/
def Rom.wf (rom : Rom) : Bool :=
  rom.toList.all Table.wf

/-- The number (1..7) and the failing check of the first table of the ROM that fails one, if any. -/
def Rom.failing (rom : Rom) : Option (Nat × TableCheck) :=
  (rom.toList.zipIdx 1).findSome? fun p => (Table.failing p.1).map fun c => (p.2, c)

end Sys2Proof
end

