-- ==== Sys2Proof/Decode.lean ====
section
/-! DEFINITION. Encodings and decode (`30_encoding.md`): the state codes, the snapshot's bit numbers, the 12-bit table
entry and the 13-bit ROM slot, the decoder from a coded event to an instruction, total and with nothing to reject
(R73, R81: "No host byte is illegal, and none traps"), the encoder back, and the opcode table's own rows as data. -/

namespace Sys2Proof

/-! ## Data layouts -/

/-- The bit number of a button in a snapshot (R75: "MSB-first fixed layout", read as B = bit 15, D25). -/
def Button.bit : Button → Nat
  | .b => 15
  | .y => 14
  | .select => 13
  | .start => 12
  | .up => 11
  | .down => 10
  | .left => 9
  | .right => 8
  | .a => 7
  | .x => 6
  | .l => 5
  | .r => 4

/-- The code `ST[2:0]` of a sequencer state (R74). -/
def SeqState.code : SeqState → BitVec 3
  | .idle    => 0#3
  | .ready   => 1#3
  | .sendLo  => 2#3
  | .sendHi  => 3#3
  | .sticks  => 4#3
  | .analog  => 5#3
  | .done    => 6#3
  | .passive => 7#3

/-- The state of a code: "All eight codes are used, and there is no reserved state code" (R74). -/
def SeqState.ofCode (c : BitVec 3) : SeqState :=
  if c = 0#3 then .idle
  else if c = 1#3 then .ready
  else if c = 2#3 then .sendLo
  else if c = 3#3 then .sendHi
  else if c = 4#3 then .sticks
  else if c = 5#3 then .analog
  else if c = 6#3 then .done
  else .passive

/-- The four channel bits of an entry: the channel, or the sentinel `NONE = 0xF` (R78). -/
def achCode : Option Nat → BitVec 4
  | none   => 0xF#4
  | some c => BitVec.ofNat 4 c

/-- The channel of four channel bits: `0xF` is NONE (R78). -/
def achOfCode (c : BitVec 4) : Option Nat :=
  if c = 0xF#4 then none else some c.toNat

/-- The 12-bit packing of an entry: `e[11:8] = src`, `e[7:4] = dst`, `e[3:0] = ach` (R78). -/
def Entry.pack (e : Entry) : BitVec 12 :=
  BitVec.ofNat 4 e.src ++ BitVec.ofNat 4 e.dst ++ achCode e.ach

/-- The entry that 12 bits hold (R78). -/
def Entry.unpack (w : BitVec 12) : Entry :=
  { src := (w.extractLsb' 8 4).toNat
    dst := (w.extractLsb' 4 4).toNat
    ach := achOfCode (w.extractLsb' 0 4) }

/-- The 13-bit slot at an entry address of the table ROM (`20_memory.md` R60): table `t` occupies the 16 slots
`(t - 1) * 16 + k`, addresses 0..111; a slot is a valid bit and the 12-bit entry. DESIGN CHOICE (notes/assumptions/23): R60
does not say which of the 13 bits is the valid bit, nor its polarity; here it is bit 12, above the entry, 1 = valid, and an
empty slot's entry bits, which nothing reads, are zero. No value outside the address range. -/
def Rom.slot (rom : Rom) (addr : Nat) : Option (BitVec 13) :=
  (rom[addr / 16]?).map fun t =>
    match t[addr % 16]? with
    | some e => 1#1 ++ e.pack
    | none   => 0#13

/-- The entry a slot holds, if its valid bit is set (R60); that the valid bit is bit 12, 1 = valid, is a DESIGN CHOICE
(notes/assumptions/23). -/
def slotEntry (w : BitVec 13) : Option Entry :=
  if w.getLsbD 12 then some (Entry.unpack (w.extractLsb' 0 12)) else none

/-- Table `t` (1..7) read back from its 16 slots (R60). -/
def Rom.readTable (rom : Rom) (t : Nat) : Table :=
  (List.range 16).filterMap fun k => (rom.slot ((t - 1) * 16 + k)).bind slotEntry

/-! ## Host bytes -/

/-- The decode key of a byte received in a state: `K[10:0] = {ST[2:0], b[7:0]}` (R72). -/
def keyOf (st : SeqState) (b : Byte) : Key := st.code ++ b

/-- `K[10:8]` as a state (R72, R74). -/
def Key.state (k : Key) : SeqState := SeqState.ofCode (k.extractLsb' 8 3)

/-- `K[7:0]`, the received byte (R72). -/
def Key.byte (k : Key) : Byte := k.extractLsb' 0 8

/-- Decode of an accepted byte: the rows 2 to 11 of R73, the exact row of a state before its catch-all. -/
def decodeByte (st : SeqState) (b : Byte) : Instr :=
  match st with
  | .idle    => if b = startCmd then .rxIdleStart else .rxIdleOther b
  | .ready   => if b = readCmd then .rxReadyRead else .rxReadyOther b
  | .sendLo  => .rxSendLo b
  | .sendHi  => .rxSendHi b
  | .sticks  => .rxStick b
  | .analog  => .rxAnalog b
  | .done    => .rxDone b
  | .passive => .rxPassive b

/-- Decode of any coded event (R73, R86): row 1, the interface guard, comes first; a snapshot is routed on
`CFG_DONE` (`40_mapping.md` R104). -/
def decode : Code → Instr
  | .hostByte false k => .rxDisabled k
  | .hostByte true k  => decodeByte (Key.state k) (Key.byte k)
  | .por              => .por
  | .snap false raw   => .snapModesel raw
  | .snap true raw    => .snapPublish raw
  | .select           => .select
  | .deselect         => .deselect

/-- The coded event of an instruction, written from the rows of R73 and R86. -/
def encode : Instr → Code
  | .rxDisabled k    => .hostByte false k
  | .rxIdleStart     => .hostByte true (keyOf .idle startCmd)
  | .rxIdleOther b   => .hostByte true (keyOf .idle b)
  | .rxReadyRead     => .hostByte true (keyOf .ready readCmd)
  | .rxReadyOther b  => .hostByte true (keyOf .ready b)
  | .rxSendLo b      => .hostByte true (keyOf .sendLo b)
  | .rxSendHi b      => .hostByte true (keyOf .sendHi b)
  | .rxStick b       => .hostByte true (keyOf .sticks b)
  | .rxAnalog b      => .hostByte true (keyOf .analog b)
  | .rxDone b        => .hostByte true (keyOf .done b)
  | .rxPassive b     => .hostByte true (keyOf .passive b)
  | .por             => .por
  | .snapModesel raw => .snap false raw
  | .snapPublish raw => .snap true raw
  | .select          => .select
  | .deselect        => .deselect

/-! ## The opcode table's rows, as data -/

/-- One HOSTBYTE row of `spec/opcode_table.json` (and of R73): it matches a key `K` when `K & mask = pat`, and stands
for the instruction `make b` of the received byte `b`. -/
structure HostRow where
  mask : Key
  pat  : Key
  make : Byte → Instr

/-- Rows 2 to 11 of R73 in their order, masks and matches as the table prints them. -/
def hostRows : List HostRow :=
  [ ⟨0x7FF#11, 0x001#11, fun _ => .rxIdleStart⟩,
    ⟨0x700#11, 0x000#11, .rxIdleOther⟩,
    ⟨0x7FF#11, 0x142#11, fun _ => .rxReadyRead⟩,
    ⟨0x700#11, 0x100#11, .rxReadyOther⟩,
    ⟨0x700#11, 0x200#11, .rxSendLo⟩,
    ⟨0x700#11, 0x300#11, .rxSendHi⟩,
    ⟨0x700#11, 0x400#11, .rxStick⟩,
    ⟨0x700#11, 0x500#11, .rxAnalog⟩,
    ⟨0x700#11, 0x600#11, .rxDone⟩,
    ⟨0x700#11, 0x700#11, .rxPassive⟩ ]

/-- A row matches a key (R73). -/
def HostRow.matches (r : HostRow) (k : Key) : Bool := k &&& r.mask == r.pat

/-! ## Table words -/

/-- Whether a table word is a HOSTBYTE decode key: the key has 11 bits (R72), so nothing above bit 10. -/
def isKeyWord (nbits w : Nat) : Bool := decide (11 ≤ nbits ∧ w < 2048)

/-- Whether a table word can only be a 16-bit snapshot: the one other operand word of the table (R71, R86) is
`raw[15:0]`, and a word with a bit above bit 10 is no key (notes/assumptions/26). -/
def isSnapWord (nbits w : Nat) : Bool := decide (16 ≤ nbits ∧ 2048 ≤ w ∧ w < 65536)

/-- The instruction the decoder reads from a word of the opcode table, bits numbered as the table numbers them: a
HOSTBYTE word is the key `K`, taken with the interface enabled; a word that is no key but fits a snapshot is `raw` of
the first SNAP after POR. POR, SELECT and DESELECT have no operand bits and no encoding (R86, R87), so no word of the
table is theirs. -/
def decodeTableWord (nbits w : Nat) : Option Instr :=
  if isKeyWord nbits w then some (decode (.hostByte true (BitVec.ofNat 11 w)))
  else if isSnapWord nbits w then some (decode (.snap false (BitVec.ofNat 16 w)))
  else none

end Sys2Proof
end

