-- ==== Sys2Proof/Config.lean ====
section
/-! DEFINITION. What an implementation fixes: the shape of the parameters of `00_scope.md` R9 (their decided values are
`Machine.params`, in `Machine/Params.lean`), the parameters the spec leaves OPEN, and the free values. An OPEN parameter
and a free value are constants with no body: nothing can be proved of their value, so a claim holds whatever it is. -/

namespace Sys2Proof

/-- Where a response byte appears on the wire (`TX_ALIGN`, R9, `42_responder.md` R156). -/
inductive TxAlign where
  | nextExchange
  | sameExchange
deriving DecidableEq, Repr

/-- The parameters of R9 whose value the spec decides. -/
structure Params where
  /-- `MODE_PRIORITY`: which button selects which table, first match wins (R121) -/
  modePriority : List (Button × BitVec 3)
  /-- `ID_BASE` -/
  idBase : Byte
  /-- `ID_EXT` -/
  idExt : Byte
  /-- `NEUTRAL`, the non-driving byte -/
  neutral : Byte
  /-- `STICK_NEUTRAL` -/
  stickNeutral : Byte
  /-- `BTNMASK_RESET` -/
  btnmaskReset : Mask
  /-- `TX_ALIGN` -/
  txAlign : TxAlign
deriving DecidableEq, Repr

/-- A table ROM that passes the checks of `30_encoding.md` R79: the raw data with its check, paired once.
(The default, seven empty tables, only shows that such a ROM exists.) -/
structure TableSet where
  rom : Rom := Vector.replicate 7 []
  ok  : Rom.wf rom = true := by decide
deriving Inhabited

/-- OPEN parameter `TABLES` (R9, `10_state.md` R33, D7): the contents of the seven mapping tables, which no source
gives. Known of it: only that every table passes R79. -/
opaque Config.tables : TableSet

/-- OPEN parameter `ACK_DELAY` (R9, D17), in unstated units of time. No rule of the model reads it (R207). -/
opaque Config.ackDelay : Nat

/-- OPEN parameter `ACK_WIDTH` (R9, D17), in unstated units of time. No rule of the model reads it (R207). -/
opaque Config.ackWidth : Nat

/-- FREE VALUE: how many boundaries of the acknowledge one-shot (end of ACK_DELAY, end of ACK_WIDTH) fall in the time
before step `n`. The model carries no time and the figures are OPEN (R152, R190, D17), so nothing is known of it. -/
opaque Config.ackProgress : Nat → Nat

/-- FREE VALUE: at step `n`, whether a SELECT that coincides with an RX event is ordered before it. The priorities of
R184-R186 do not order this pair ("the order ... is otherwise free"). -/
opaque Config.selectFirst : Nat → Bool

/-- FREE VALUE: what reading `ANALOG[c]` gives for an index outside 0..11. `20_memory.md` R52: the index "can never be
out of range", so the spec states no value, and only states that no run reaches can ask for one. -/
opaque Config.analogBeyond : Nat → Byte

/-- FREE VALUE: the table that `TSEL = 0` names. `10_state.md` R27: "value 0 is reserved and never written". -/
opaque Config.reservedTable : Table

end Sys2Proof
end

