-- ==== Sys2Proof/Machine/Params.lean ====
section
/-! DEFINITION. The values of the core's parameters and constants: the decided values of `00_scope.md` R9, and the
sourced constants and sizes of R7 and R8 that only the machine reads. -/

namespace Sys2Proof.Machine

/-- The decided parameters of R9 (`92_eei_decisions.md` D3-D6, D8, D10, D14; notes/assumptions/1 to 6). -/
def params : Params :=
  { modePriority :=
      [(.start, 1#3), (.select, 2#3), (.a, 3#3), (.b, 4#3), (.x, 5#3), (.y, 6#3), (.l, 7#3)]
    idBase       := 0x41#8
    idExt        := 0x79#8
    neutral      := 0xFF#8
    stickNeutral := 0x80#8
    btnmaskReset := 0xFFFF#16
    txAlign      := .nextExchange }

/-- `DATA_START = 0x5A`, "the responder's "data start" marker" (R7). -/
def dataStart : Byte := 0x5A#8

/-- `AB_PRESSED = 0x00` (R7). -/
def abPressed : Byte := 0x00#8

/-- `AB_RELEASED = 0xFF` (R7). -/
def abReleased : Byte := 0xFF#8

/-- `N_STICK = 4` stick bytes (R8), the reset value of the 3-bit `STICK_REM` (`10_state.md` R23). -/
def nStick : BitVec 3 := 4#3

/-- `N_ANALOG = 12` (R8) as the 4-bit counter `AB_SENT` compares with it (`42_responder.md` R149). -/
def nAnalogCount : BitVec 4 := 12#4

/-- The table that stays active when no test matches (`41_mode_select.md` R121: "the default table (table 1)"). -/
def defaultTable : BitVec 3 := 1#3

end Sys2Proof.Machine
end

