-- ==== Sys2Proof/Machine/State.lean ====
section
/-! DEFINITION. The state of the core (`10_state.md` R20, every register under its own name; R31-R33), its outputs, the
pending input, the reasons a step can stop, and the state after reset (`70_reset_and_hazards.md` R200). Plain data. -/

namespace Sys2Proof.Machine

/-- The acknowledge-pulse generator, "the core's only timer" (`60_exceptions.md` R190): a one-shot that runs ACK_DELAY
and then ACK_WIDTH. The line `ACK_N` (`10_state.md` R32) is 0 in the phase `low` and 1 in the others. -/
inductive AckPhase where
  /-- no pulse in progress; the line is released -/
  | idle
  /-- a pulse was started and ACK_DELAY is running; the line is still released -/
  | delay
  /-- ACK_WIDTH is running; the line is asserted -/
  | low
deriving DecidableEq, Repr

/-- The output `emit(r, a)` of one accepted byte (`00_scope.md` R11, `30_encoding.md` R71). -/
structure Emit where
  /-- the response byte -/
  r : Byte
  /-- the acknowledge request -/
  a : Bool
deriving DecidableEq, Repr

/-- The whole state of the machine. The first five fields are the session group, the next two the output buffers, the
next three the configuration group (`10_state.md` R38). -/
structure State where
  /-- `ST`, the sequencer (R22) -/
  st       : SeqState
  /-- `STICK_REM`, stick bytes still to send (R23) -/
  stickRem : BitVec 3
  /-- `AB_SENT`, analog-button bytes already sent (R24) -/
  abSent   : BitVec 4
  /-- `TXBUF`, the transmit register (R30) -/
  txbuf    : Byte
  /-- `ACK_N` with its one-shot (R32, R190): `State.ackN` reads the line -/
  ack      : AckPhase
  /-- `BTNMASK`, active-low (R25) -/
  btnmask  : Mask
  /-- `ANALOG[0..11]` (R26) -/
  analog   : AnalogArray
  /-- `TSEL`, the active table, 1..7 (R27) -/
  tsel     : BitVec 3
  /-- `EXT`, the DeviceIdentity flag: true = extended (R28) -/
  ext      : Bool
  /-- `CFG_DONE`: mode selection has happened (R29) -/
  cfgDone  : Bool
  /-- `ATT`, the core's view of attention: true = asserted (R31) -/
  att      : Bool
  /-- the table ROM `TABLES[1..7]` (R33, `20_memory.md` R50): constant, no event writes it. It is the parameter
  `TABLES`, carried here so that a claim about every state is a claim about every ROM (notes/assumptions/7). -/
  tables   : Rom
  /-- the level of the attention line, an input of the core (R31, R200 "current attention level") -/
  attnPin  : Bool
  /-- the instants the outside world will present, oldest first (the model's own; `00_scope.md` R12) -/
  input    : List Instant
  /-- the `emit` output of the last event, if it produced one -/
  emit     : Option Emit
  /-- the byte the host received in the exchange of the last event, if that was an exchange with the
  selected core (`42_responder.md` R156) -/
  wire     : Option Byte
  /-- how many steps were taken: the model's own counter, the argument of the free values -/
  tick     : Nat
deriving DecidableEq, Repr

/-- The line `ACK_N` (R32): true = released, false = asserted. -/
def State.ackN (s : State) : Bool := decide (s.ack ≠ .low)

/-- Why a step could fault: for no reason. `60_exceptions.md` R180: "A model therefore has no fault outcome for any
admitted event." The type is empty, so no meaning can answer a fault. -/
inductive Fault where
deriving DecidableEq, Repr

/-- Why the model could refuse. -/
inductive Refusal where
  /-- Raised by an arm of `exec` for an instruction that has no meaning yet; no arm raises it. Safe. -/
  | notModelled (mnemonic : String)
  /-- Raised by `configure`, at configuration time only, for a `TABLES` parameter whose table `t` fails `check`
  (`30_encoding.md` R79, `60_exceptions.md` R180). No step raises it. Safe: a ROM the firmware might accept is
  refused. -/
  | illFormedTable (t : Nat) (check : TableCheck)
deriving DecidableEq, Repr

/-- The machine right after power-on reset (R200, R20), with the OPEN parameter `TABLES` as its ROM, nothing pending
at its inputs and no output yet. `ATT` "follows the input", which the spec does not fix at power-on: deselected
(DESIGN CHOICE, notes/assumptions/8). -/
def State.reset : State :=
  { st       := .idle
    stickRem := nStick
    abSent   := 0#4
    txbuf    := params.neutral
    ack      := .idle
    btnmask  := params.btnmaskReset
    analog   := Vector.replicate 12 abPressed
    tsel     := defaultTable
    ext      := false
    cfgDone  := false
    att      := false
    tables   := Config.tables.rom
    attnPin  := false
    input    := []
    emit     := none
    wire     := none
    tick     := 0 }

end Sys2Proof.Machine
end

