-- ==== Sys2Proof/Machine/Operands.lean ====
section
/-! DEFINITION. The operand forms (`30_encoding.md` R80): the normalised snapshot and its bit tests `S[src]`, the mask
bits `BTNMASK[dst]` and its two byte halves, the channels `ANALOG[ach]`, and the tables of the ROM. No operand is
sign-extended, scaled or shifted. -/

namespace Sys2Proof.Machine

/-- NORMALIZE (`40_mapping.md` R100): `S <- ~raw`, active-low to active-high. -/
def normalizeRaw (raw : Snapshot) : Snapshot := ~~~raw

/-- `S[i] == 1`: source bit `i` is pressed (R80). -/
def pressed (S : Snapshot) (i : Nat) : Bool := S.getLsbD i

/-- `m[d] <- 0` (R101). -/
def clearBit (m : Mask) (d : Nat) : Mask := m &&& ~~~(1#16 <<< d)

/-- `BTNMASK[7:0]` (`20_memory.md` R53). -/
def lowByte (m : Mask) : Byte := m.extractLsb' 0 8

/-- `BTNMASK[15:8]` (R53). -/
def highByte (m : Mask) : Byte := m.extractLsb' 8 8

/-- `ANALOG[c]` (R52); outside 0..11 a free value (notes/assumptions/9). -/
def analogAt (an : AnalogArray) (c : Nat) : Byte := (an[c]?).getD (Config.analogBeyond c)

/-- `an[c] <- 0x00` (R101); an index outside 0..11 writes nothing. -/
def pressChannel (an : AnalogArray) (c : Nat) : AnalogArray := an.setIfInBounds c abPressed

/-- Table `t` of the ROM (`10_state.md` R27, R33); `TSEL = 0` is reserved, and its table a free value
(notes/assumptions/10). -/
def tableOf (rom : Rom) (t : BitVec 3) : Table :=
  if t = 0#3 then Config.reservedTable else (rom[t.toNat - 1]?).getD Config.reservedTable

/-- `TableRead(t, k)` (`20_memory.md` R51): entry `k` of table `t`, for `k < LEN(t)`. -/
def tableRead (rom : Rom) (t : BitVec 3) (k : Nat) : Option Entry := (tableOf rom t)[k]?

end Sys2Proof.Machine
end

