-- ==== Sys2Proof/Machine/Flags.lean ====
section
/-! DEFINITION. The core's Boolean state. It "has no arithmetic flags or condition codes" (`10_state.md` R34): what is
computed is `EXT` from snapshot bit Up, and the guard that `CFG_DONE` and `ATT` make for a received byte. -/

namespace Sys2Proof.Machine

/-- `EXT <- S[UP]`, UP = bit 11 (`41_mode_select.md` R122). -/
def extFlag (S : Snapshot) : Bool := pressed S Button.up.bit

/-- RX is accepted only when `CFG_DONE == 1` and `ATT == 1` (`60_exceptions.md` R182, `42_responder.md` R141). -/
def State.rxEnabled (s : State) : Bool := s.cfgDone && s.att

end Sys2Proof.Machine
end

