-- ==== Sys2Proof/Machine/Ops.lean ====
section
/-! DEFINITION. The operations the meanings share: committing a response (R140), the session reset (R153), the
acknowledge one-shot (R152, R190), and taking the next event from the input by the priorities of R184-R186. The core
raises no exception and has no trap entry or return (`60_exceptions.md` R180, R187), so there is no such operation. -/

namespace Sys2Proof.Machine

/-- An event without `emit`: no output, no byte exchanged with a selected core. -/
def State.silent (s : State) : State := { s with emit := none, wire := none }

/-- A byte that is not accepted (R141): no register changes and no `emit`. Where the core is selected it is an exchange
all the same, in which the byte-exchange primitive "shifts `TXBUF` out" (`60_exceptions.md` R191, `42_responder.md` R156);
a host that has not selected the core exchanges nothing with it (notes/assumptions/16). -/
def State.unanswered (s : State) : State :=
  { s with emit := none, wire := if s.att then some s.txbuf else none }

/-- The byte the host receives in this exchange (`42_responder.md` R156): with NEXT_EXCHANGE the value `TXBUF` held
before the event, with SAME_EXCHANGE the response itself. -/
def wireByte (align : TxAlign) (before r : Byte) : Byte :=
  match align with
  | .nextExchange => before
  | .sameExchange => r

/-- The acknowledge one-shot after an accepted byte (R152): `a = true` starts one pulse, `a = false` leaves the line
released. A pulse of an earlier byte is over by then (`60_exceptions.md` R183). -/
def ackAfter (a : Bool) : AckPhase := if a then .delay else .idle

/-- The commit of an accepted byte (R140): `TXBUF <- r`, the pulse if `a`, and the outputs `emit(r, a)` and the byte on
the wire. -/
def State.accept (s : State) (r : Byte) (a : Bool) : State :=
  { s with
    txbuf := r
    ack   := ackAfter a
    emit  := some { r := r, a := a }
    wire  := some (wireByte params.txAlign s.txbuf r) }

/-- The session reset (`42_responder.md` R153, R155): the session group to its reset values. -/
def State.sessionReset (s : State) : State :=
  { s with
    st       := .idle
    stickRem := nStick
    abSent   := 0#4
    txbuf    := params.neutral
    ack      := .idle }

/-- The one-shot after `n` of its boundaries have passed (R152, R190): the end of ACK_DELAY asserts the line, the end
of ACK_WIDTH releases it; it does not start itself again. -/
def AckPhase.after (p : AckPhase) (n : Nat) : AckPhase :=
  match p with
  | .idle  => .idle
  | .delay => if n = 0 then .delay else if n = 1 then .low else .idle
  | .low   => if n = 0 then .low else .idle

/-- The time before a step: a pulse in progress may go on (the free value `Config.ackProgress`, notes/assumptions/11).
Nothing else of the core depends on time (`00_scope.md` R12, `70_reset_and_hazards.md` R211). -/
def State.elapse (s : State) : State :=
  { s with
    ack  := s.ack.after (Config.ackProgress s.tick)
    tick := s.tick + 1 }

/-- The core when an event reaches it: a SELECT or a DESELECT is the edge of the attention line (`30_encoding.md` R86), so
the line is then at the level of that edge (R31, notes/assumptions/30). No other event moves it. -/
def State.arrive (s : State) (e : Event) : State :=
  { s with attnPin := (Instant.ofEvent e).attn.getD s.attnPin }

/-- Which of the events of an instant comes first, and what is left of the instant after it. POR first, the others are
lost (R184); DESELECT before RX, which is dropped (R185); RX before SNAP (R186); SELECT against RX is free
(`selFirst`). DESELECT or SELECT against SNAP makes no difference: they touch different registers (R188).
DESIGN CHOICE (notes/assumptions/17): an RX that is lost or dropped here leaves no byte on the model's `wire`. The spec
does not say what the host receives in that exchange, in which a selected core may have shifted `TXBUF` out (R191). -/
def nextEvent (i : Instant) (selFirst : Bool) : Option Event × Instant :=
  if i.por then (some .por, Instant.quiet)
  else match i.attn, i.rx, i.snap with
    | some false, _, sn         => (some .deselect, { Instant.quiet with snap := sn })
    | some true, none, sn       => (some .select, { Instant.quiet with snap := sn })
    | some true, some b, sn     =>
      if selFirst then (some .select, { Instant.quiet with rx := some b, snap := sn })
      else (some (.rx b), { Instant.quiet with attn := some true, snap := sn })
    | none, some b, sn          => (some (.rx b), { Instant.quiet with snap := sn })
    | none, none, some raw      => (some (.snap raw), Instant.quiet)
    | none, none, none          => (none, Instant.quiet)

/-- Take the next event from the input: the attention line moves to the level the instant gives it, and what the
arbitration leaves of the instant stays at the head. No event where nothing is pending. -/
def State.takeEvent (s : State) : State × Option Event :=
  match s.input with
  | [] => (s, none)
  | i :: rest =>
    let p := nextEvent i (Config.selectFirst s.tick)
    ({ s with
       attnPin := i.attn.getD s.attnPin
       input   := if p.2 = Instant.quiet then rest else p.2 :: rest }, p.1)

/-- An event as the decoder sees it in a state (`30_encoding.md` R72, R86). -/
def State.sample (s : State) : Event → Code
  | .por      => .por
  | .snap raw => .snap s.cfgDone raw
  | .select   => .select
  | .deselect => .deselect
  | .rx b     => .hostByte s.rxEnabled (keyOf s.st b)

end Sys2Proof.Machine
end

