-- ==== Sys2Proof/Machine/Mapping.lean ====
section
/-! DEFINITION. The Mapping Engine (`40_mapping.md`): TRANSLATE and PUBLISH. -/

namespace Sys2Proof.Machine

/-- One turn of TRANSLATE's loop (R101): a pressed entry clears its destination bit and presses its channel. -/
def translateEntry (S : Snapshot) (acc : Mask × AnalogArray) (e : Entry) : Mask × AnalogArray :=
  if pressed S e.src then
    (clearBit acc.1 e.dst,
     match e.ach with
     | none   => acc.2
     | some c => pressChannel acc.2 c)
  else acc

/-- TRANSLATE (R101): from "all-ones" and "all-0xFF", the entries of the table in order. A pure function. -/
def translateSnapshot (S : Snapshot) (t : Table) : Mask × AnalogArray :=
  t.foldl (translateEntry S) (0xFFFF#16, Vector.replicate 12 abReleased)

/-- PUBLISH (R103): sample, map with the active table, and install both results as one atomic update (R59). -/
def execSnapPublish (raw : Snapshot) (s : State) : Host.Outcome State Fault Refusal :=
  .next { s.silent with
          btnmask := (translateSnapshot (normalizeRaw raw) (tableOf s.tables s.tsel)).1
          analog  := (translateSnapshot (normalizeRaw raw) (tableOf s.tables s.tsel)).2 }

end Sys2Proof.Machine
end

