-- ==== Sys2Proof/Machine/ModeSelect.lean ====
section
/-! DEFINITION. The Mode Selector (`41_mode_select.md`): SELECT_TABLE and MODESEL. -/

namespace Sys2Proof.Machine

/-- SELECT_TABLE over a priority list (R121): the first listed button that is pressed chooses its table; otherwise the
default table. -/
def selectTableBy (priority : List (Button × BitVec 3)) (S : Snapshot) : BitVec 3 :=
  match priority.find? (fun p => pressed S p.1.bit) with
  | some p => p.2
  | none   => defaultTable

/-- SELECT_TABLE with the hardware's `MODE_PRIORITY` (R9, R121). -/
def selectTable (S : Snapshot) : BitVec 3 := selectTableBy params.modePriority S

/-- MODESEL (R120-R124): one atomic update of `TSEL`, `EXT`, `ANALOG` and `CFG_DONE` from the mode-select snapshot. -/
def execSnapModesel (raw : Snapshot) (s : State) : Host.Outcome State Fault Refusal :=
  .next { s.silent with
          tsel    := selectTable (normalizeRaw raw)
          ext     := extFlag (normalizeRaw raw)
          analog  := Vector.replicate 12 abPressed
          cfgDone := true }

end Sys2Proof.Machine
end

