-- ==== Sys2Proof/Machine/Responder.lean ====
section
/-! DEFINITION. The Bus Responder's RX instructions (`42_responder.md` R141-R151), one meaning each. The decoder has
already chosen the row (R73), so a meaning does what its rule says and tests nothing the row has tested. -/

namespace Sys2Proof.Machine

/-- RX_DISABLED (R141): the byte is not accepted; "no register changes and no `emit`". A selected core still shifts
`TXBUF` out. -/
def execRxDisabled (_key : Key) (s : State) : Host.Outcome State Fault Refusal :=
  .next s.unanswered

/-- RX_IDLE_START (R142): respond with the device identity byte, acknowledge, go to READY. -/
def execRxIdleStart (s : State) : Host.Outcome State Fault Refusal :=
  .next { s.accept (if s.ext then params.idExt else params.idBase) true with st := .ready }

/-- RX_IDLE_OTHER (R143): NEUTRAL, no acknowledge, PASSIVE until deselect. -/
def execRxIdleOther (_b : Byte) (s : State) : Host.Outcome State Fault Refusal :=
  .next { s.accept params.neutral false with st := .passive }

/-- RX_READY_READ (R144): the data-start marker, acknowledge, go to SEND_LO. -/
def execRxReadyRead (s : State) : Host.Outcome State Fault Refusal :=
  .next { s.accept dataStart true with st := .sendLo }

/-- RX_READY_OTHER (R145): ignored; NEUTRAL, no acknowledge, `ST` unchanged. -/
def execRxReadyOther (_b : Byte) (s : State) : Host.Outcome State Fault Refusal :=
  .next (s.accept params.neutral false)

/-- RX_SEND_LO (R146): the low button byte. -/
def execRxSendLo (_b : Byte) (s : State) : Host.Outcome State Fault Refusal :=
  .next { s.accept (lowByte s.btnmask) true with st := .sendHi }

/-- RX_SEND_HI (R147): the high button byte, and the branch on identity. -/
def execRxSendHi (_b : Byte) (s : State) : Host.Outcome State Fault Refusal :=
  .next { s.accept (highByte s.btnmask) true with st := if s.ext then .sticks else .done }

/-- RX_STICK (R148): one neutral stick byte; `STICK_REM` counts down, and the fourth byte goes to ANALOG. -/
def execRxStick (_b : Byte) (s : State) : Host.Outcome State Fault Refusal :=
  .next { s.accept params.stickNeutral true with
          stickRem := s.stickRem - 1#3
          st       := if s.stickRem - 1#3 = 0#3 then .analog else s.st }

/-- RX_ANALOG (R149): the byte of channel `AB_SENT`; `AB_SENT` counts up, and the twelfth byte goes to DONE. -/
def execRxAnalog (_b : Byte) (s : State) : Host.Outcome State Fault Refusal :=
  .next { s.accept (analogAt s.analog s.abSent.toNat) true with
          abSent := s.abSent + 1#4
          st     := if s.abSent + 1#4 = nAnalogCount then .done else s.st }

/-- RX_DONE (R150): NEUTRAL, no acknowledge, `ST` unchanged. -/
def execRxDone (_b : Byte) (s : State) : Host.Outcome State Fault Refusal :=
  .next (s.accept params.neutral false)

/-- RX_PASSIVE (R151): NEUTRAL, no acknowledge, `ST` unchanged. -/
def execRxPassive (_b : Byte) (s : State) : Host.Outcome State Fault Refusal :=
  .next (s.accept params.neutral false)

end Sys2Proof.Machine
end

