-- ==== Sys2Proof/Machine/Session.lean ====
section
/-! DEFINITION. The attention edges (`42_responder.md` R153, R154) and the power-on reset
(`70_reset_and_hazards.md` R200). -/

namespace Sys2Proof.Machine

/-- DESELECT (R153): `ATT <- 0` and the asynchronous session reset; a pulse in progress is cut short. -/
def execDeselect (s : State) : Host.Outcome State Fault Refusal :=
  .next { s.sessionReset.silent with att := false }

/-- SELECT (R154): `ATT <- 1`, nothing else. -/
def execSelect (s : State) : Host.Outcome State Fault Refusal :=
  .next { s.silent with att := true }

/-- POR (R200): every register to its reset value, `ATT <- current attention level`. -/
def execPor (s : State) : Host.Outcome State Fault Refusal :=
  .next { s.sessionReset.silent with
          btnmask := params.btnmaskReset
          analog  := Vector.replicate 12 abPressed
          tsel    := defaultTable
          ext     := false
          cfgDone := false
          att     := s.attnPin }

end Sys2Proof.Machine
end

