-- ==== Sys2Proof/Machine/Dispatch.lean ====
section
/-! DEFINITION. One arm per instruction, each one direct call of its meaning. -/

namespace Sys2Proof.Machine

def exec (i : Instr) (s : State) : Host.Outcome State Fault Refusal :=
  match i with
  | .rxDisabled key => Sys2Proof.Machine.execRxDisabled key s
  | .rxIdleStart => Sys2Proof.Machine.execRxIdleStart s
  | .rxIdleOther b => Sys2Proof.Machine.execRxIdleOther b s
  | .rxReadyRead => Sys2Proof.Machine.execRxReadyRead s
  | .rxReadyOther b => Sys2Proof.Machine.execRxReadyOther b s
  | .rxSendLo b => Sys2Proof.Machine.execRxSendLo b s
  | .rxSendHi b => Sys2Proof.Machine.execRxSendHi b s
  | .rxStick b => Sys2Proof.Machine.execRxStick b s
  | .rxAnalog b => Sys2Proof.Machine.execRxAnalog b s
  | .rxDone b => Sys2Proof.Machine.execRxDone b s
  | .rxPassive b => Sys2Proof.Machine.execRxPassive b s
  | .por => Sys2Proof.Machine.execPor s
  | .snapModesel raw => Sys2Proof.Machine.execSnapModesel raw s
  | .snapPublish raw => Sys2Proof.Machine.execSnapPublish raw s
  | .select => Sys2Proof.Machine.execSelect s
  | .deselect => Sys2Proof.Machine.execDeselect s

end Sys2Proof.Machine
end

