-- ==== Sys2Proof/Machine/Step.lean ====
section
/-! DEFINITION. One step of the machine (`00_scope.md` R12): the time before it, the next event by priority, and that
event, atomically. -/

namespace Sys2Proof.Machine

/-- One event, delivered to the core: the attention line moves with its edge, and the event is decoded in the state it meets
and executed (R73, R140). -/
def deliver (e : Event) (s : State) : Host.Outcome State Fault Refusal :=
  exec (decode (s.sample e)) (s.arrive e)

/-- One step: a pulse in progress may go on, then the next event is taken and delivered. Where nothing is pending the
core only waits: it "changes state only at discrete events" (R12). -/
def step (s : State) : Host.Outcome State Fault Refusal :=
  match s.elapse.takeEvent with
  | (t, none)   => .next t.silent
  | (t, some e) => deliver e t

/-- The state `s` with the instruction of a table word next: the core fetches nothing, so the word comes as the event
it stands for, at the head of the input. A HOSTBYTE word is a byte `K[7:0]` in the state `K[10:8]`, with the interface
enabled; a snapshot word is a first SNAP. Any other word is no instruction and leaves `s` as it is. -/
def State.withFetchWord (s : State) (nbits w : Nat) : State :=
  if isKeyWord nbits w then
    { s with
      st      := Key.state (BitVec.ofNat 11 w)
      cfgDone := true
      att     := true
      attnPin := true
      input   := .ofEvent (.rx (Key.byte (BitVec.ofNat 11 w))) :: s.input }
  else if isSnapWord nbits w then
    { s with
      cfgDone := false
      input   := .ofEvent (.snap (BitVec.ofNat 16 w)) :: s.input }
  else s

end Sys2Proof.Machine
end

