-- ==== Sys2Proof/Machine/Configure.lean ====
section
/-! DEFINITION. Configuration time (`30_encoding.md` R79, `70_reset_and_hazards.md` R204 (1)): building the machine with
a given `TABLES` parameter. The model's only refusals (`60_exceptions.md` R180). -/

namespace Sys2Proof.Machine

/-- The machine with the given table ROM, after reset; a ROM with a table that fails a check of R79 is refused, by the
number of its first failing table and the name of the check. "A failing table is never executed." -/
def configure (rom : Rom) : Host.Outcome State Fault Refusal :=
  match rom.failing with
  | none          => .next { State.reset with tables := rom }
  | some (t, chk) => .refused (.illFormedTable t chk)

end Sys2Proof.Machine
end

