-- ==== Sys2Proof/Machine/Script.lean ====
section
/-! DEFINITION. The event scripts of `30_encoding.md` R87 and R88: a program for the core is a list of events; the
pseudo-events HOLD, BOOT, POLL_BASE and POLL_EXT with their expansions. -/

namespace Sys2Proof.Machine

/-- `HOLD {b1, b2, ...}` (R88): `SNAP raw` with `raw = ~((1<<b1) | (1<<b2) | ...) & 0xFFFF`. -/
def hold (buttons : List Button) : Event :=
  .snap (~~~(buttons.foldl (fun w btn => w ||| (1#16 <<< btn.bit)) 0#16))

/-- `BOOT {...}` (R88): POR, then the mode-select snapshot. -/
def boot (buttons : List Button) : List Event := [.por, hold buttons]

/-- A poll with `n` filler bytes (R88; the filler 0x00 stands for any byte, R83). -/
def poll (n : Nat) : List Event :=
  .select :: .rx startCmd :: .rx readCmd :: (List.replicate n (Event.rx 0x00#8) ++ [.deselect])

/-- `POLL_BASE` (R88): five host bytes. -/
def pollBase : List Event := poll 3

/-- `POLL_EXT` (R88): twenty-one host bytes. -/
def pollExt : List Event := poll 19

/-- A script as the instants an outside world presents, one event each (R87). -/
def scriptInput (es : List Event) : List Instant := es.map Instant.ofEvent

end Sys2Proof.Machine
end

