-- ==== Sys2Proof/Safety.lean ====
section
/-! DEFINITION. What a good state and a good run are, in the terms the statements use: the invariant of every reachable
state (`10_state.md` R36, `42_responder.md` R155), the response frame and the position in it (`20_memory.md` R56, R57),
and what a run shows (`70_reset_and_hazards.md` R212). -/

namespace Sys2Proof.Machine

/-! ## The invariant -/

/-- The table of R36: which counter values go with a sequencer state. STICKS and ANALOG only with `EXT` = 1. -/
def State.CountersFit (s : State) : Prop :=
  match s.st with
  | .idle | .ready | .sendLo | .sendHi | .passive => s.stickRem = 4#3 ∧ s.abSent = 0#4
  | .sticks => 1 ≤ s.stickRem.toNat ∧ s.stickRem.toNat ≤ 4 ∧ s.abSent = 0#4 ∧ s.ext = true
  | .analog => s.stickRem = 0#3 ∧ s.abSent.toNat ≤ 11 ∧ s.ext = true
  | .done   => if s.ext then s.stickRem = 0#3 ∧ s.abSent = 12#4 else s.stickRem = 4#3 ∧ s.abSent = 0#4

/-- The session group at its reset values (R155); with the one-shot idle the line `ACK_N` is 1. -/
def State.SessionHeld (s : State) : Prop :=
  s.st = .idle ∧ s.stickRem = 4#3 ∧ s.abSent = 0#4 ∧ s.txbuf = params.neutral ∧ s.ack = .idle

/-- The invariant of the machine: it holds after reset and every step keeps it. -/
structure State.Inv (s : State) : Prop where
  /-- R36 -/
  counters     : s.CountersFit
  /-- R155: "While `ATT == 0`, the session group holds its reset values" -/
  deselected   : s.att = false → s.SessionHeld
  /-- R29, R141: before mode selection nothing was accepted -/
  unconfigured : s.cfgDone = false → s.SessionHeld
  /-- only the session reset enters IDLE (R142, R153) -/
  idleHeld     : s.st = .idle → s.SessionHeld
  /-- R27: `TSEL` is in 1..7 -/
  tselLegal    : s.tsel ≠ 0#3
  /-- R26: each channel is 0x00 or 0xFF -/
  analogRange  : ∀ c (h : c < 12), s.analog[c] = abPressed ∨ s.analog[c] = abReleased
  /-- R79, R204 (1): the ROM holds seven well-formed tables -/
  romWf        : s.tables.wf = true

/-! ## The response frame -/

/-- `LEN_FRAME` (R56). -/
def State.lenFrame (s : State) : Nat := if s.ext then 20 else 4

/-- The byte at position `i` of the frame, from the registers as they stand (R56). -/
def State.frameByte (s : State) (i : Nat) : Byte :=
  if i = 0 then (if s.ext then params.idExt else params.idBase)
  else if i = 1 then dataStart
  else if i = 2 then lowByte s.btnmask
  else if i = 3 then highByte s.btnmask
  else if i < 8 then params.stickNeutral
  else analogAt s.analog (i - 8)

/-- The position of the session registers in the frame (R57); PASSIVE has none. -/
def State.framePos (s : State) : Option Nat :=
  match s.st with
  | .idle    => some 0
  | .ready   => some 1
  | .sendLo  => some 2
  | .sendHi  => some 3
  | .sticks  => some (4 + (4 - s.stickRem.toNat))
  | .analog  => some (8 + s.abSent.toNat)
  | .done    => some s.lenFrame
  | .passive => none

/-- A host byte that the frame's grammar admits at position `p`: START_CMD, then READ_CMD, then anything (R57). -/
def admitsByte (p : Nat) (b : Byte) : Prop := (p = 0 → b = startCmd) ∧ (p = 1 → b = readCmd)

/-! ## Runs -/

/-- The events delivered one after the other, each with the state after it. -/
def trace (s : State) : List Event → List (Event × State)
  | [] => []
  | e :: es =>
    match deliver e s with
    | .next t => (e, t) :: trace t es
    | _       => []

/-- The state a list of events leads to, where every event answers a next state. -/
def runEvents (s : State) : List Event → Option State
  | [] => some s
  | e :: es =>
    match deliver e s with
    | .next t => runEvents t es
    | _       => none

/-- The `emit` outputs of a run, in order. -/
def emits (s : State) (es : List Event) : List Emit := (trace s es).filterMap fun p => p.2.emit

/-- The bytes the host receives in a run, one per exchange with a selected core. -/
def wires (s : State) (es : List Event) : List Byte := (trace s es).filterMap fun p => p.2.wire

/-- What one event of a session shows (R212): a host byte with its emit, if it was accepted, or a publish. -/
inductive Observed where
  | byte (b : Byte) (emit : Option Emit)
  | publish (raw : Snapshot)
deriving DecidableEq, Repr

/-- The host byte of an observed event, if it is one. -/
def Observed.host : Observed → Option Byte
  | .byte b _  => some b
  | .publish _ => none

/-- The emit of an observed event, if it has one. -/
def Observed.output : Observed → Option Emit
  | .byte _ m  => m
  | .publish _ => none

/-- The snapshot of an observed publish. -/
def Observed.snapshot : Observed → Option Snapshot
  | .byte _ _    => none
  | .publish raw => some raw

/-- What one event shows in the state it meets, with its emit (R212). A snapshot is a publish only once `CFG_DONE` is 1;
the mode-select snapshot is none (`40_mapping.md` R104). -/
def observed (s : State) : Event → Option Emit → Option Observed
  | .rx b, m     => some (.byte b m)
  | .snap raw, _ => if s.cfgDone then some (.publish raw) else none
  | _, _         => none

/-- The observation of the session in progress, if there is one, after an event: a SELECT begins one, "A session ends only
at DESELECT" (R212), and every other event adds what it shows. A SELECT or a POR inside a session does not end it
(notes/assumptions/36). -/
def sessionAfter (s : State) (e : Event) (m : Option Emit) : Option (List Observed) → Option (List Observed)
  | none   => if e = .select then some [] else none
  | some o => if e = .deselect then none else some (o ++ (observed s e m).toList)

/-- The observations of the sessions of a run, `current` being that of the session in progress. -/
def observeFrom (s : State) (current : Option (List Observed)) : List Event → List (List Observed)
  | [] => current.toList
  | e :: es =>
    match deliver e s with
    | .next t =>
      (if e = .deselect then current.toList else []) ++ observeFrom t (sessionAfter s e t.emit current) es
    | _ => current.toList

/-- The observations of the sessions that begin in a run, in order (R212): a session is "the interval from a SELECT to the
next DESELECT", its observation "the sequence of `(host byte, emit)` pairs of its RX events, together with the PUBLISH
events interleaved among them". The last may be unfinished. -/
def observe (s : State) (es : List Event) : List (List Observed) := observeFrom s none es

/-- The state after one PUBLISH, as far as the frame reads it. -/
def State.published (s : State) (raw : Snapshot) : State :=
  { s with
    btnmask := (translateSnapshot (normalizeRaw raw) (tableOf s.tables s.tsel)).1
    analog  := (translateSnapshot (normalizeRaw raw) (tableOf s.tables s.tsel)).2 }

/-- The frame sequencer of R56, R57 by itself, with a position counter in the place of the FSM: each host byte takes
the next position of the frame, evaluated when the byte arrives, with acknowledge; past the frame NEUTRAL without.
A snapshot republishes the buffers. (Meant for sessions of RX and SNAP events.) -/
def frameRun (s : State) (p : Nat) : List Event → List Emit
  | [] => []
  | .rx _ :: es =>
    (if p < s.lenFrame then { r := s.frameByte p, a := true } else { r := params.neutral, a := false })
      :: frameRun s (p + 1) es
  | .snap raw :: es => frameRun (s.published raw) p es
  | _ :: es => frameRun s p es

/-- The host bytes of a list of events, in order. -/
def hostBytes (es : List Event) : List Byte :=
  es.filterMap fun e => match e with
    | .rx b => some b
    | _     => none

/-- The snapshots of a list of events, in order. -/
def snapshots (es : List Event) : List Snapshot :=
  es.filterMap fun e => match e with
    | .snap raw => some raw
    | _         => none

/-- Only host bytes and snapshots: what can fall inside one session. -/
def insideSession (es : List Event) : Prop := ∀ e ∈ es, (∃ b, e = .rx b) ∨ (∃ raw, e = .snap raw)

end Sys2Proof.Machine
end

