-- ==== Sys2Proof/Certificates/Slice0/Obligations.lean ====
section
/-! DEFINITION. The statements for the provers. A docstring names the part of the spec a statement formalises, and the
spec's or the model's own decision it rests on, where it does. -/

open Sys2Proof Sys2Proof.Machine

/-- POR (`70_reset_and_hazards.md`, section 1). The values the source does not give are the spec's decision D14; that the edge of a SELECT or DESELECT is what moves the level POR reads is the model's deduction (notes/assumptions/30). -/
def Obligations.PowerOnResetRegisters : Prop :=
  ∀ s : State,
    exec .por s = .next
      { s with
        st := .idle, stickRem := 4#3, abSent := 0#4, txbuf := params.neutral, ack := .idle,
        btnmask := params.btnmaskReset, analog := Vector.replicate 12 0x00#8,
        tsel := 1#3, ext := false, cfgDone := false, att := s.attnPin,
        emit := none, wire := none }
    ∧ (∀ t, exec .por s = .next t → t.ackN = true)
    ∧ deliver .por s = exec .por s
    ∧ (∃ u, runEvents s [.select, .por] = some u ∧ u.att = true)
    ∧ (∃ u, runEvents s [.deselect, .por] = some u ∧ u.att = false)

/-- The reset column of `10_state.md` section 1. `ATT` "follows the input": deselected at reset is the model's choice (notes/assumptions/8). -/
def Obligations.ResetStateValues : Prop :=
  State.reset.st = .idle ∧ State.reset.stickRem = 4#3 ∧ State.reset.abSent = 0#4
    ∧ State.reset.txbuf = params.neutral ∧ State.reset.ackN = true
    ∧ State.reset.btnmask = 0xFFFF#16 ∧ (∀ c (h : c < 12), State.reset.analog[c] = 0x00#8)
    ∧ State.reset.tsel = 1#3 ∧ State.reset.ext = false ∧ State.reset.cfgDone = false
    ∧ State.reset.att = false ∧ State.reset.attnPin = false ∧ State.reset.tables = Config.tables.rom
    ∧ State.reset.input = [] ∧ State.reset.emit = none ∧ State.reset.wire = none

/-- `00_scope.md` section 4: the source's literals, and the values the spec decides (D3-D6, D10, D14; notes/assumptions/1 to 5). -/
def Obligations.ParameterValues : Prop :=
  startCmd = 0x01#8 ∧ readCmd = 0x42#8 ∧ dataStart = 0x5A#8 ∧ abPressed = 0x00#8 ∧ abReleased = 0xFF#8
    ∧ params.idBase = 0x41#8 ∧ params.idExt = 0x79#8 ∧ params.neutral = 0xFF#8
    ∧ params.stickNeutral = 0x80#8 ∧ params.btnmaskReset = 0xFFFF#16 ∧ params.txAlign = .nextExchange

/-- The invariant of `10_state.md` section 7 with the facts it rests on, at reset. -/
def Obligations.ResetMeetsInvariant : Prop :=
  State.reset.Inv

/-- The session invariant of `10_state.md` section 7, the level-sensitive reset of `42_responder.md` section 4 and the legal values of `TSEL` and `ANALOG`, as an invariant of the step. -/
def Obligations.StepKeepsInvariant : Prop :=
  ∀ s t : State, s.Inv → step s = .next t → t.Inv

/-- `60_exceptions.md` R180 (and the source's "total, crash-free behavior for all inputs"). -/
def Obligations.NoFaultAndOnlyConfigurationRefuses : Prop :=
  (∀ (i : Instr) (s : State), ∃ t, exec i s = .next t)
    ∧ (∀ s : State, ∃ t, step s = .next t)
    ∧ (∀ rom : Rom, rom.wf = true → configure rom = .next { State.reset with tables := rom })
    ∧ (∀ rom : Rom, rom.wf = false →
        ∃ (t : Nat) (c : TableCheck) (h : t < 7),
          configure rom = .refused (.illFormedTable (t + 1) c) ∧ c.holds rom[t] = false)

/-- RX_DISABLED; that such a byte is dropped is the spec's decision D19 (notes/assumptions/16), the byte on the wire D10 (notes/assumptions/5), and that a deselected core exchanges nothing the model's deduction (notes/assumptions/16). -/
def Obligations.RxDisabledChangesNothing : Prop :=
  ∀ s : State,
    (∀ k, exec (.rxDisabled k) s = .next
      { s with emit := none, wire := if s.att then some s.txbuf else none })
    ∧ (∀ b, (s.cfgDone = false ∨ s.att = false) ↔ ∃ k, decode (s.sample (.rx b)) = .rxDisabled k)
    ∧ (s.Inv → (s.cfgDone = false ∨ s.att = false) → s.txbuf = params.neutral ∧ s.ackN = true)
    ∧ (∀ b, s.Inv → s.cfgDone = false → s.att = true →
        ∃ t, deliver (.rx b) s = .next t ∧ t.emit = none ∧ t.wire = some params.neutral)

/-- RX_IDLE_START (R142). The values behind the two names are the spec's (D3, D4); the one-exchange lag of the wire is D10. The byte on the wire (the model's own output) follows D10, the pulse's phase D17 (notes/assumptions/5, 11). -/
def Obligations.RxIdleStartAnswersIdentity : Prop :=
  ∀ (s : State) (b : Byte),
    exec .rxIdleStart s = .next
      { s with
        st := .ready
        txbuf := if s.ext then params.idExt else params.idBase
        ack := .delay
        emit := some { r := if s.ext then params.idExt else params.idBase, a := true }
        wire := some s.txbuf }
    ∧ (s.rxEnabled = true → s.st = .idle → b = 0x01#8 → deliver (.rx b) s = exec .rxIdleStart s)

/-- RX_IDLE_OTHER; D5 and D12 decide the response and the PASSIVE state (notes/assumptions/3, 13). The byte on the wire (the model's own output) follows D10, the pulse's phase D17 (notes/assumptions/5, 11). -/
def Obligations.RxIdleOtherGoesPassive : Prop :=
  ∀ (s : State) (b : Byte),
    exec (.rxIdleOther b) s = .next
      { s with
        st := .passive, txbuf := params.neutral, ack := .idle
        emit := some { r := params.neutral, a := false }, wire := some s.txbuf }
    ∧ (s.rxEnabled = true → s.st = .idle → b ≠ 0x01#8 → deliver (.rx b) s = exec (.rxIdleOther b) s)

/-- RX_READY_READ (R144). The byte on the wire (the model's own output) follows D10, the pulse's phase D17 (notes/assumptions/5, 11). -/
def Obligations.RxReadyReadAnswersDataStart : Prop :=
  ∀ (s : State) (b : Byte),
    exec .rxReadyRead s = .next
      { s with
        st := .sendLo, txbuf := 0x5A#8, ack := .delay
        emit := some { r := 0x5A#8, a := true }, wire := some s.txbuf }
    ∧ (s.rxEnabled = true → s.st = .ready → b = 0x42#8 → deliver (.rx b) s = exec .rxReadyRead s)

/-- RX_READY_OTHER; the response is D11 (notes/assumptions/13), the kept state is C3. The byte on the wire (the model's own output) follows D10, the pulse's phase D17 (notes/assumptions/5, 11). -/
def Obligations.RxReadyOtherIsIgnored : Prop :=
  ∀ (s : State) (b : Byte),
    exec (.rxReadyOther b) s = .next
      { s with
        txbuf := params.neutral, ack := .idle
        emit := some { r := params.neutral, a := false }, wire := some s.txbuf }
    ∧ (s.rxEnabled = true → s.st = .ready → b ≠ 0x42#8 → deliver (.rx b) s = exec (.rxReadyOther b) s)

/-- RX_SEND_LO; no inversion at transmission is C1 and D2 (notes/assumptions/12). The byte on the wire (the model's own output) follows D10, the pulse's phase D17 (notes/assumptions/5, 11). -/
def Obligations.RxSendLoSendsLowByte : Prop :=
  ∀ (s : State) (b : Byte),
    exec (.rxSendLo b) s = .next
      { s with
        st := .sendHi, txbuf := s.btnmask.extractLsb' 0 8, ack := .delay
        emit := some { r := s.btnmask.extractLsb' 0 8, a := true }, wire := some s.txbuf }
    ∧ (s.rxEnabled = true → s.st = .sendLo → deliver (.rx b) s = exec (.rxSendLo b) s)

/-- RX_SEND_HI; C1 and D2 as for RX_SEND_LO. The byte on the wire (the model's own output) follows D10, the pulse's phase D17 (notes/assumptions/5, 11). -/
def Obligations.RxSendHiSendsHighByteAndBranches : Prop :=
  ∀ (s : State) (b : Byte),
    exec (.rxSendHi b) s = .next
      { s with
        st := if s.ext then .sticks else .done
        txbuf := s.btnmask.extractLsb' 8 8, ack := .delay
        emit := some { r := s.btnmask.extractLsb' 8 8, a := true }, wire := some s.txbuf }
    ∧ (s.rxEnabled = true → s.st = .sendHi → deliver (.rx b) s = exec (.rxSendHi b) s)

/-- RX_STICK (R148). The value behind STICK_NEUTRAL is the spec's (D6). The byte on the wire (the model's own output) follows D10, the pulse's phase D17 (notes/assumptions/5, 11). -/
def Obligations.RxStickSendsNeutralAndCountsDown : Prop :=
  ∀ (s : State) (b : Byte),
    exec (.rxStick b) s = .next
      { s with
        stickRem := s.stickRem - 1#3
        st := if s.stickRem - 1#3 = 0#3 then .analog else s.st
        txbuf := params.stickNeutral, ack := .delay
        emit := some { r := params.stickNeutral, a := true }, wire := some s.txbuf }
    ∧ (s.rxEnabled = true → s.st = .sticks → deliver (.rx b) s = exec (.rxStick b) s)
    ∧ (s.Inv → s.st = .sticks → (s.stickRem - 1#3).toNat + 1 = s.stickRem.toNat)

/-- RX_ANALOG (R149). AB_SENT beyond 11 occurs in no reachable state; there the byte is free (notes/assumptions/9). The byte on the wire (the model's own output) follows D10, the pulse's phase D17 (notes/assumptions/5, 11). -/
def Obligations.RxAnalogSendsChannelAndCountsUp : Prop :=
  ∀ (s : State) (b : Byte),
    (∃ r : Byte,
      exec (.rxAnalog b) s = .next
        { s with
          abSent := s.abSent + 1#4
          st := if s.abSent + 1#4 = 12#4 then .done else s.st
          txbuf := r, ack := .delay
          emit := some { r := r, a := true }, wire := some s.txbuf }
      ∧ (∀ h : s.abSent.toNat < 12, r = s.analog[s.abSent.toNat]))
    ∧ (s.rxEnabled = true → s.st = .analog → deliver (.rx b) s = exec (.rxAnalog b) s)
    ∧ (s.Inv → s.st = .analog → s.abSent.toNat ≤ 11 ∧ (s.abSent + 1#4).toNat = s.abSent.toNat + 1)

/-- RX_DONE and RX_PASSIVE (notes/assumptions/3, 13). The byte on the wire (the model's own output) follows D10, the pulse's phase D17 (notes/assumptions/5, 11). -/
def Obligations.RxDoneAndPassiveStaySilent : Prop :=
  ∀ (s : State) (b : Byte),
    exec (.rxDone b) s = .next
      { s with
        txbuf := params.neutral, ack := .idle
        emit := some { r := params.neutral, a := false }, wire := some s.txbuf }
    ∧ exec (.rxPassive b) s = .next
      { s with
        txbuf := params.neutral, ack := .idle
        emit := some { r := params.neutral, a := false }, wire := some s.txbuf }
    ∧ (s.rxEnabled = true → s.st = .done → deliver (.rx b) s = exec (.rxDone b) s)
    ∧ (s.rxEnabled = true → s.st = .passive → deliver (.rx b) s = exec (.rxPassive b) s)

/-- SELECT (`42_responder.md` section 4); the interface is the spec's decision D1, that the event is the line's edge the model's deduction (notes/assumptions/30). -/
def Obligations.SelectSetsAttention : Prop :=
  ∀ s : State,
    exec .select s = .next { s with att := true, emit := none, wire := none }
    ∧ deliver .select s = exec .select { s with attnPin := true }
    ∧ (s.att = true → exec .select s = .next { s with emit := none, wire := none })

/-- DESELECT (`42_responder.md` section 4); TXBUF is D10, the cut pulse D18 (notes/assumptions/5, 15); that the event is the line's edge is the model's deduction (notes/assumptions/30). -/
def Obligations.DeselectResetsSession : Prop :=
  ∀ s : State,
    exec .deselect s = .next
      { s with
        att := false, st := .idle, stickRem := 4#3, abSent := 0#4, txbuf := params.neutral, ack := .idle
        emit := none, wire := none }
    ∧ (∀ t, exec .deselect s = .next t → t.ackN = true)
    ∧ deliver .deselect s = exec .deselect { s with attnPin := false }
    ∧ (s.Inv → s.att = false → exec .deselect s = .next { s with emit := none, wire := none })

/-- PUBLISH (`40_mapping.md`); atomicity is D13, the routing of SNAP on CFG_DONE D22 (notes/assumptions/14, 18). -/
def Obligations.PublishInstallsTranslation : Prop :=
  ∀ (s : State) (raw : Snapshot),
    exec (.snapPublish raw) s = .next
      { s with
        btnmask := (translateSnapshot (~~~raw) (tableOf s.tables s.tsel)).1
        analog := (translateSnapshot (~~~raw) (tableOf s.tables s.tsel)).2
        emit := none, wire := none }
    ∧ (∀ h : 1 ≤ s.tsel.toNat, tableOf s.tables s.tsel = s.tables[s.tsel.toNat - 1])
    ∧ (s.cfgDone = true → deliver (.snap raw) s = exec (.snapPublish raw) s)

/-- MODESEL (`41_mode_select.md`); that the mode-select snapshot is not published is D22. -/
def Obligations.ModeselConfigures : Prop :=
  ∀ (s : State) (raw : Snapshot),
    exec (.snapModesel raw) s = .next
      { s with
        tsel := selectTable (~~~raw), ext := (~~~raw).getLsbD 11
        analog := Vector.replicate 12 0x00#8, cfgDone := true
        emit := none, wire := none }
    ∧ (s.cfgDone = false → deliver (.snap raw) s = exec (.snapModesel raw) s)

/-- R122: the identity flag is one test, independent of the table test. -/
def Obligations.ExtendedIdentityIffUpHeldAtBoot : Prop :=
  ∀ (s : State) (raw : Snapshot),
    ∃ t, exec (.snapModesel raw) s = .next t
      ∧ (t.ext = true ↔ raw.getLsbD 11 = false)
      ∧ ∃ t', exec (.snapModesel (raw ^^^ (1#16 <<< 11))) s = .next t' ∧ t'.tsel = t.tsel ∧ t'.ext = !t.ext

/-- R124: the selection "is a one-shot configuration step". -/
def Obligations.ConfigDoneIsOneShot : Prop :=
  (∀ (s t : State) (raw : Snapshot), exec (.snapModesel raw) s = .next t → t.cfgDone = true ∧ t.rxEnabled = t.att)
    ∧ (∀ (i : Instr) (s t : State), exec i s = .next t → s.cfgDone = true → t.cfgDone = false → i = .por)
    ∧ (∀ (s u : State) (es : List Event), s.cfgDone = true → Event.por ∉ es → runEvents s es = some u →
        u.cfgDone = true ∧ ∀ raw, decode (u.sample (.snap raw)) = .snapPublish raw)

/-- R208: "reconfiguration requires a power cycle". -/
def Obligations.ConfigurationFixedUntilPowerOff : Prop :=
  (∀ (s t : State) (raw : Snapshot), s.cfgDone = true → deliver (.snap raw) s = .next t →
      t.tsel = s.tsel ∧ t.ext = s.ext)
    ∧ (∀ (s : State) (es : List Event), s.cfgDone = true → Event.por ∉ es →
        ∃ u, runEvents s es = some u ∧ u.tsel = s.tsel ∧ u.ext = s.ext ∧ u.tables = s.tables)

/-- The window before the first publish (`70_reset_and_hazards.md` section 3); the mask's 0xFFFF is the spec's decision D14 (notes/assumptions/4), that the first snapshot is not published D22 (notes/assumptions/18). -/
def Obligations.WindowBeforeFirstPublish : Prop :=
  ∀ (s : State) (raw : Snapshot) (es : List Event), snapshots es = [] → Event.por ∉ es →
    ∃ u, runEvents s (.por :: .snap raw :: es) = some u
      ∧ u.cfgDone = true ∧ u.btnmask = 0xFFFF#16 ∧ (∀ c (h : c < 12), u.analog[c] = 0x00#8)
      ∧ u.tsel = selectTable (normalizeRaw raw) ∧ u.ext = extFlag (normalizeRaw raw)

/-- The execution model (`00_scope.md` section 5): events, each atomic; what the step adds around exec is the model's (notes/assumptions/11, 20). -/
def Obligations.StepRunsDecodedInstruction : Prop :=
  (∀ (s t : State) (e : Event), s.elapse.takeEvent = (t, some e) → step s = exec (decode (t.sample e)) t)
    ∧ (∀ (s : State) (e : Event) (rest : List Instant), s.input = Instant.ofEvent e :: rest →
        step s = exec (decode (s.sample e))
          { s.elapse with
            attnPin := if e = .select then true else if e = .deselect then false else s.attnPin
            input := rest })
    ∧ (∀ s : State, s.elapse =
        { s with ack := s.ack.after (Config.ackProgress s.tick), tick := s.tick + 1 })
    ∧ (∀ s : State, s.input = [] → step s = .next { s.elapse with emit := none, wire := none })

/-- The bit patterns of the opcode table's rows. -/
def Obligations.WrittenKeysDecode : Prop :=
  decode (.hostByte true 0b00000000001#11) = .rxIdleStart
    ∧ decode (.hostByte true 0b00010000001#11) = .rxIdleOther 0x81#8
    ∧ decode (.hostByte true 0b00101000010#11) = .rxReadyRead
    ∧ decode (.hostByte true 0b00101000011#11) = .rxReadyOther 0x43#8
    ∧ decode (.hostByte true 0b01011111111#11) = .rxSendLo 0xFF#8
    ∧ decode (.hostByte true 0b01101011010#11) = .rxSendHi 0x5A#8
    ∧ decode (.hostByte true 0b10000000001#11) = .rxStick 0x01#8
    ∧ decode (.hostByte true 0b10101000010#11) = .rxAnalog 0x42#8
    ∧ decode (.hostByte true 0b11000000001#11) = .rxDone 0x01#8
    ∧ decode (.hostByte true 0b11100000001#11) = .rxPassive 0x01#8
    ∧ decode (.hostByte false 0b00000000001#11) = .rxDisabled 0b00000000001#11

/-- The formats of `30_encoding.md` sections 1 and 5, every row of the opcode table. -/
def Obligations.DecodeEncodeAgree : Prop :=
  (∀ i : Instr, i.wf = true → decode (encode i) = i)
    ∧ (∀ c : Code, (decode c).wf = true ∧ encode (decode c) = c)

/-- The ordered decode table of `30_encoding.md` section 1 (total and deterministic). -/
def Obligations.DecodeTakesFirstMatchingRow : Prop :=
  (∀ k : Key, ((hostRows.find? fun r => r.matches k).map fun r => r.make (Key.byte k))
      = some (decode (.hostByte true k)))
    ∧ (∀ k : Key, (hostRows.filter fun r => r.matches k).length
        = if k = 0x001#11 ∨ k = 0x142#11 then 2 else 1)

/-- The host's way of placing an instruction (notes/assumptions/26). -/
def Obligations.TableWordRunsAtFetch : Prop :=
  ∀ (s : State) (nbits w : Nat) (i : Instr), decodeTableWord nbits w = some i →
    step (s.withFetchWord nbits w) = exec i { (s.withFetchWord nbits w).elapse with input := s.input }

/-- The table-ROM layout (`20_memory.md` section 5): "The two forms are equivalent." That the valid bit of a slot is bit 12, 1 = valid, is the model's choice (notes/assumptions/23). -/
def Obligations.RomSlotsHoldTheTables : Prop :=
  ∀ rom : Rom, rom.wf = true →
    (∀ t (h : t < 7), rom.readTable (t + 1) = rom[t])
    ∧ (∀ addr, 112 ≤ addr → rom.slot addr = none)
    ∧ (∀ addr, addr < 112 → ∃ w, rom.slot addr = some w)
    ∧ (∀ t (h : t < 7), ∀ e ∈ rom[t], Entry.unpack e.pack = e)
    ∧ (∀ w : BitVec 12, (Entry.unpack w).pack = w)

/-- The named checks WF_LEN, WF_SRC, WF_DST, WF_DST_DISJOINT, WF_ACH, WF_ACH_DISJOINT. -/
def Obligations.TableChecksMeanTheirRules : Prop :=
  ∀ t : Table, t.wf = true ↔
    t.length ≤ 16
    ∧ (∀ e ∈ t, 4 ≤ e.src ∧ e.src ≤ 15) ∧ (∀ e ∈ t, e.dst ≤ 15)
    ∧ (∀ (j k : Nat) (hj : j < t.length) (hk : k < t.length), t[j].dst = t[k].dst → j = k)
    ∧ (∀ e ∈ t, ∀ c, e.ach = some c → c ≤ 11)
    ∧ (∀ (j k : Nat) (hj : j < t.length) (hk : k < t.length), t[j].ach = t[k].ach → t[j].ach ≠ none → j = k)

/-- NORMALIZE (R100). -/
def Obligations.NormalizeComplements : Prop :=
  (∀ (raw : Snapshot) (i : Nat), i < 16 → pressed (normalizeRaw raw) i = !raw.getLsbD i)
    ∧ normalizeRaw 0xFFFF#16 = 0x0000#16
    ∧ (∀ raw : Snapshot, raw.extractLsb' 0 4 = 0xF#4 → (normalizeRaw raw).extractLsb' 0 4 = 0x0#4)
    ∧ normalizeRaw 0x7FFF#16 = 0x8000#16

/-- TRANSLATE's closed form (R101), "equivalent to the loop". -/
def Obligations.TranslateClosedForm : Prop :=
  (∀ (S : Snapshot) (t : Table) (d : Nat), d < 16 →
      ((translateSnapshot S t).1.getLsbD d = false ↔ ∃ e ∈ t, e.dst = d ∧ pressed S e.src = true))
    ∧ (∀ (S : Snapshot) (t : Table) (c : Nat) (h : c < 12),
        ((translateSnapshot S t).2[c] = 0x00#8 ↔ ∃ e ∈ t, e.ach = some c ∧ pressed S e.src = true)
        ∧ ((¬ ∃ e ∈ t, e.ach = some c ∧ pressed S e.src = true) → (translateSnapshot S t).2[c] = 0xFF#8))
    ∧ (∀ S : Snapshot, translateSnapshot S [] = (0xFFFF#16, Vector.replicate 12 0xFF#8))

/-- Law (2) of TRANSLATE, even for a table that breaks the disjointness checks. -/
def Obligations.TranslateIgnoresEntryOrder : Prop :=
  ∀ (S : Snapshot) (t t' : Table), t.Perm t' → translateSnapshot S t = translateSnapshot S t'

/-- Laws (3) and (4) of TRANSLATE. -/
def Obligations.TranslateIsMonotone : Prop :=
  ∀ (S S' : Snapshot) (t : Table), (∀ i, pressed S i = true → pressed S' i = true) →
    (∀ d, d < 16 → (translateSnapshot S t).1.getLsbD d = false → (translateSnapshot S' t).1.getLsbD d = false)
    ∧ (∀ c (h : c < 12), (translateSnapshot S t).2[c] = 0x00#8 → (translateSnapshot S' t).2[c] = 0x00#8)
    ∧ (∀ c (h : c < 12), (translateSnapshot S t).2[c] = 0x00#8 ∨ (translateSnapshot S t).2[c] = 0xFF#8)

/-- Law (5) of TRANSLATE; that no table reads the reserved bits is D23. -/
def Obligations.ReservedSnapshotBitsAreIgnored : Prop :=
  (∀ (S S' : Snapshot) (t : Table), t.wf = true → S >>> 4 = S' >>> 4 → translateSnapshot S t = translateSnapshot S' t)
    ∧ (∀ (s : State) (raw raw' : Snapshot), s.Inv → raw >>> 4 = raw' >>> 4 →
        exec (.snapPublish raw) s = exec (.snapPublish raw') s)

/-- The single-button law, with the spec's proviso about a shared source. -/
def Obligations.SingleButtonLaw : Prop :=
  ∀ (t : Table) (e : Entry), t.wf = true → e ∈ t → (∀ e' ∈ t, e'.src = e.src → e' = e) →
    (translateSnapshot (1#16 <<< e.src) t).1 = 0xFFFF#16 &&& ~~~(1#16 <<< e.dst)
    ∧ (∀ c (h : c < 12), (translateSnapshot (1#16 <<< e.src) t).2[c] = if e.ach = some c then 0x00#8 else 0xFF#8)

/-- The release law (`40_mapping.md`). -/
def Obligations.ReleaseLaw : Prop :=
  (∀ t : Table, translateSnapshot 0x0000#16 t = (0xFFFF#16, Vector.replicate 12 0xFF#8))
    ∧ (∀ s : State, exec (.snapPublish 0xFFFF#16) s = .next
        { s with btnmask := 0xFFFF#16, analog := Vector.replicate 12 0xFF#8, emit := none, wire := none })

/-- SELECT_TABLE; MODE_PRIORITY and the meaning of a test are D8 and D9 (notes/assumptions/6). -/
def Obligations.SelectTablePriority : Prop :=
  ∀ S : Snapshot, selectTable S =
    if S.getLsbD 12 then 1#3 else if S.getLsbD 13 then 2#3 else if S.getLsbD 7 then 3#3
    else if S.getLsbD 15 then 4#3 else if S.getLsbD 6 then 5#3 else if S.getLsbD 14 then 6#3
    else if S.getLsbD 5 then 7#3 else 1#3

/-- Corner case (d) of SELECT_TABLE, also for another numbering of the tables (D8 leaves it a parameter). -/
def Obligations.OnlyCandidateButtonsSelectTables : Prop :=
  ∀ (S S' : Snapshot), S &&& 0xF0E0#16 = S' &&& 0xF0E0#16 →
    selectTable S = selectTable S'
    ∧ ∀ priority : List (Button × BitVec 3),
        (∀ p ∈ priority, p.1 ∈ [Button.start, .select, .a, .b, .x, .y, .l]) →
        selectTableBy priority S = selectTableBy priority S'

/-- R125: MODESEL is total, and there is no runtime reconfiguration interface. -/
def Obligations.ModeselIsTotal : Prop :=
  (∀ (s : State) (raw : Snapshot), ∃ t, exec (.snapModesel raw) s = .next t
      ∧ 1 ≤ t.tsel.toNat ∧ t.tsel.toNat ≤ 7 ∧ (raw = 0xFFFF#16 → t.tsel = 1#3 ∧ t.ext = false))
    ∧ (∀ (i : Instr) (s t : State), exec i s = .next t → (∀ raw, i ≠ .snapModesel raw) → i ≠ .por →
        t.tsel = s.tsel ∧ t.ext = s.ext)

/-- The access table of `10_state.md` section 7 and the agents of `60_exceptions.md` section 5. -/
def Obligations.RegistersWrittenOnlyByTheirEvents : Prop :=
  ∀ (i : Instr) (s t : State), exec i s = .next t →
    (t.btnmask ≠ s.btnmask → i = .por ∨ ∃ raw, i = .snapPublish raw)
    ∧ (t.analog ≠ s.analog → i = .por ∨ (∃ raw, i = .snapModesel raw) ∨ ∃ raw, i = .snapPublish raw)
    ∧ ((t.tsel ≠ s.tsel ∨ t.ext ≠ s.ext ∨ t.cfgDone ≠ s.cfgDone) → i = .por ∨ ∃ raw, i = .snapModesel raw)
    ∧ (t.att ≠ s.att → i = .por ∨ i = .select ∨ i = .deselect)
    ∧ (t.stickRem ≠ s.stickRem → i = .por ∨ i = .deselect ∨ ∃ b, i = .rxStick b)
    ∧ (t.abSent ≠ s.abSent → i = .por ∨ i = .deselect ∨ ∃ b, i = .rxAnalog b)
    ∧ ((i = .select ∨ (∃ k, i = .rxDisabled k) ∨ (∃ raw, i = .snapModesel raw) ∨ ∃ raw, i = .snapPublish raw) →
        t.st = s.st ∧ t.stickRem = s.stickRem ∧ t.abSent = s.abSent ∧ t.txbuf = s.txbuf ∧ t.ack = s.ack
        ∧ t.emit = none)
    ∧ t.tables = s.tables ∧ t.attnPin = s.attnPin ∧ t.input = s.input

/-- MAIN and RESP write different registers (`60_exceptions.md` section 5), so the order the arbitration picks for this pair does not matter. -/
def Obligations.AttentionAndSnapshotsCommute : Prop :=
  ∀ (s : State) (raw : Snapshot) (e : Event), e = .select ∨ e = .deselect →
    runEvents s [e, .snap raw] = runEvents s [.snap raw, e]

/-- The priorities of `60_exceptions.md` section 3. The orders of POR, of DESELECT against RX and of RX against SNAP are the spec's decision D20; that SELECT against RX is free, and that the rest of an instant stays pending, is the model's choice (notes/assumptions/17); that the line already has its new level, also where POR reads it, is the model's deduction (notes/assumptions/30). -/
def Obligations.CoincidentEventsFollowPriorities : Prop :=
  (∀ (s : State) (i : Instant) (rest : List Instant), s.input = i :: rest → i.por = true →
      step s = exec .por { s.elapse with attnPin := i.attn.getD s.attnPin, input := rest })
    ∧ (∀ (s : State) (b : Byte) (sn : Option Snapshot) (rest : List Instant),
        s.input = { por := false, attn := some false, rx := some b, snap := sn } :: rest →
        step s = exec .deselect
          { s.elapse with
            attnPin := false
            input := match sn with
              | none => rest
              | some raw => Instant.ofEvent (.snap raw) :: rest })
    ∧ (∀ (s : State) (b : Byte) (raw : Snapshot) (rest : List Instant),
        s.input = { por := false, attn := none, rx := some b, snap := some raw } :: rest →
        step s = exec (decode (s.sample (.rx b))) { s.elapse with input := Instant.ofEvent (.snap raw) :: rest })
    ∧ (∀ (s : State) (b : Byte) (sn : Option Snapshot) (rest : List Instant),
        s.input = { por := false, attn := some true, rx := some b, snap := sn } :: rest →
        step s = exec .select
            { s.elapse with
              attnPin := true
              input := { por := false, attn := none, rx := some b, snap := sn } :: rest }
        ∨ step s = exec (decode (s.sample (.rx b)))
            { s.elapse with
              attnPin := true
              input := { por := false, attn := some true, rx := none, snap := sn } :: rest })

/-- The acknowledge set of `42_responder.md` section 3. TXBUF is D10 (notes/assumptions/5); the one-shot's delay after an acknowledged emit is the model's choice, and that an emit sets the one-shot anew from every earlier phase its deduction (D17, notes/assumptions/11). -/
def Obligations.AcknowledgingInstructions : Prop :=
  ∀ (i : Instr) (s : State), ∃ t, exec i s = .next t
    ∧ ((∃ r, t.emit = some { r := r, a := true }) ↔
        i = .rxIdleStart ∨ i = .rxReadyRead ∨ (∃ b, i = .rxSendLo b) ∨ (∃ b, i = .rxSendHi b)
        ∨ (∃ b, i = .rxStick b) ∨ ∃ b, i = .rxAnalog b)
    ∧ (∀ m, t.emit = some m → t.txbuf = m.r ∧ (m.a = true → t.ack = .delay) ∧ (m.a = false → t.ackN = true))

/-- The acknowledge one-shot of `60_exceptions.md` section 7 and `42_responder.md` section 3. Its phases are the model's choice; that ACK_N is 1 after every step that emitted, whatever phase went before, is the model's deduction from R183 (D17, notes/assumptions/11), unsafe for a host that does not wait for the end of a pulse; the pulse cut by DESELECT is D18 (notes/assumptions/15). -/
def Obligations.AcknowledgePulseOnlyAfterAcknowledge : Prop :=
  ∀ s t : State, step s = .next t →
    (t.ack = .delay → (∃ m, t.emit = some m ∧ m.a = true) ∨ (s.ack = .delay ∧ t.emit = none))
    ∧ (s.ack = .idle → t.ackN = true)
    ∧ (∀ m, t.emit = some m → t.ackN = true)
    ∧ (∀ m, t.emit = some m → m.a = false → t.ack = .idle)

/-- The counter laws (`42_responder.md` section 5). -/
def Obligations.CounterLaws : Prop :=
  ∀ (s t : State) (e : Event), s.Inv → deliver e s = .next t →
    (t.stickRem = s.stickRem
      ∨ (s.st = .sticks ∧ (∃ b, e = .rx b) ∧ s.stickRem.toNat = t.stickRem.toNat + 1)
      ∨ ((e = .deselect ∨ e = .por) ∧ t.stickRem = 4#3))
    ∧ (t.abSent = s.abSent
      ∨ (s.st = .analog ∧ (∃ b, e = .rx b) ∧ t.abSent.toNat = s.abSent.toNat + 1 ∧ t.abSent.toNat ≤ 12)
      ∨ ((e = .deselect ∨ e = .por) ∧ t.abSent = 0#4))

/-- R83. The value behind NEUTRAL is the spec's (D5). -/
def Obligations.DontCareBytesDoNotMatter : Prop :=
  ∀ (s : State) (b b' : Byte), s.rxEnabled = true → s.st ≠ .idle → s.st ≠ .ready →
    deliver (.rx b) s = deliver (.rx b') s
    ∧ (s.st = .done ∨ s.st = .passive →
        ∃ t, deliver (.rx b) s = .next t ∧ t.emit = some { r := params.neutral, a := false })

/-- "The DONE and PASSIVE states are terminal until deselect" (`10_state.md` section 1). -/
def Obligations.SilentStatesHoldUntilDeselect : Prop :=
  ∀ (s : State) (es : List Event), s.st = .done ∨ s.st = .passive → Event.deselect ∉ es → Event.por ∉ es →
    ∃ u, runEvents s es = some u ∧ u.st = s.st
      ∧ ∀ m ∈ emits s es, m = { r := params.neutral, a := false }

/-- The level-sensitive session reset (D21). -/
def Obligations.SessionHeldWhileDeselected : Prop :=
  ∀ (s : State) (es : List Event), Event.select ∉ es → Event.por ∉ es →
    ∃ u, runEvents s (.deselect :: es) = some u
      ∧ u.att = false ∧ u.st = .idle ∧ u.stickRem = 4#3 ∧ u.abSent = 0#4 ∧ u.txbuf = params.neutral
      ∧ u.ackN = true ∧ emits s (.deselect :: es) = []

/-- The session reset restores the whole session group, so no earlier session is seen in a later one. -/
def Obligations.DeselectForgetsTheSession : Prop :=
  ∀ (s s' : State) (es : List Event),
    s.btnmask = s'.btnmask → s.analog = s'.analog → s.tsel = s'.tsel → s.ext = s'.ext →
    s.cfgDone = s'.cfgDone → s.tables = s'.tables →
    emits s (.deselect :: .select :: es) = emits s' (.deselect :: .select :: es)
    ∧ wires s (.deselect :: .select :: es) = wires s' (.deselect :: .select :: es)
    ∧ observe s (.deselect :: .select :: es) = observe s' (.deselect :: .select :: es)

/-- The frame table and the position function of `20_memory.md` section 3. -/
def Obligations.AcceptedByteTakesTheNextFramePosition : Prop :=
  ∀ (s : State) (b : Byte) (p : Nat), s.Inv → s.rxEnabled = true → s.framePos = some p →
    ∃ t, deliver (.rx b) s = .next t
      ∧ (p < s.lenFrame → admitsByte p b →
          t.emit = some { r := s.frameByte p, a := true } ∧ t.framePos = some (p + 1) ∧ t.lenFrame = s.lenFrame)
      ∧ (s.lenFrame ≤ p → p = s.lenFrame ∧ t.emit = some { r := params.neutral, a := false }
          ∧ t.framePos = some p)

/-- The frame of a session (`20_memory.md` section 3) under every interleaving of publishes (section 6; D13, notes/assumptions/14). -/
def Obligations.SessionEmitsTheFrame : Prop :=
  ∀ (s : State) (es : List Event) (bs : List Byte),
    s.Inv → s.rxEnabled = true → s.st = .idle → insideSession es → hostBytes es = 0x01#8 :: 0x42#8 :: bs →
    emits s es = frameRun s 0 es

/-- The frame law of `42_responder.md` section 5 (from the source's section 8). -/
def Obligations.FrameLaw : Prop :=
  ∀ (s : State) (x y : Byte) (fill rest : List Byte),
    s.Inv → s.rxEnabled = true → s.st = .idle → fill.length = 16 →
    (s.ext = false →
      emits s ((0x01#8 :: 0x42#8 :: x :: y :: rest).map Event.rx) =
        [⟨params.idBase, true⟩, ⟨0x5A#8, true⟩, ⟨lowByte s.btnmask, true⟩, ⟨highByte s.btnmask, true⟩]
        ++ rest.map fun _ => ⟨params.neutral, false⟩)
    ∧ (s.ext = true →
      emits s ((0x01#8 :: 0x42#8 :: x :: y :: (fill ++ rest)).map Event.rx) =
        [⟨params.idExt, true⟩, ⟨0x5A#8, true⟩, ⟨lowByte s.btnmask, true⟩, ⟨highByte s.btnmask, true⟩]
        ++ List.replicate 4 ⟨params.stickNeutral, true⟩
        ++ s.analog.toList.map (fun c => ⟨c, true⟩)
        ++ rest.map fun _ => ⟨params.neutral, false⟩)

/-- The count of acknowledges (`42_responder.md` section 3). -/
def Obligations.AcknowledgeCountOfASession : Prop :=
  ∀ (s : State) (bs : List Byte), s.Inv → s.rxEnabled = true → s.st = .idle →
    (emits s ((0x01#8 :: 0x42#8 :: bs).map Event.rx)).countP (fun m => m.a) = min (bs.length + 2) s.lenFrame
    ∧ s.lenFrame = if s.ext then 20 else 4

/-- TX_ALIGN = NEXT_EXCHANGE (D10). -/
def Obligations.WireLagsOneExchange : Prop :=
  ∀ (s : State) (bs : List Byte), s.rxEnabled = true →
    wires s (bs.map Event.rx) = (s.txbuf :: (emits s (bs.map Event.rx)).map (fun m => m.r)).take bs.length
    ∧ (emits s (bs.map Event.rx)).length = bs.length
    ∧ (s.Inv → s.st = .idle → s.txbuf = params.neutral)

/-- A host must clock LEN_FRAME + 1 bytes (`70_reset_and_hazards.md` section 3); where a response appears on the wire is the spec's decision D10 (notes/assumptions/5). -/
def Obligations.WholeFrameOnTheWire : Prop :=
  ∀ (s : State) (bs : List Byte), s.Inv → s.rxEnabled = true → s.st = .idle → bs.length + 1 = s.lenFrame →
    wires s ((0x01#8 :: 0x42#8 :: bs).map Event.rx) = params.neutral :: (List.range s.lenFrame).map s.frameByte
    ∧ (emits s ((0x01#8 :: 0x42#8 :: bs).map Event.rx)).getLast? = some { r := params.neutral, a := false }

/-- A run of the step over a script of single events is the run of its events (`00_scope.md` section 5). What a step adds to its event is the model's choice: the free progress of the one-shot (notes/assumptions/11), the pending list and the step counter (notes/assumptions/20, 27), the supply of events from outside (notes/assumptions/28). -/
def Obligations.StepsFollowTheEventScript : Prop :=
  ∀ (s : State) (es : List Event), s.input = es.map Instant.ofEvent →
    ∃ t u, Host.Core.run Sys2Proof.core es.length s = .next t ∧ runEvents s es = some u
      ∧ t = { u with ack := t.ack, input := [], tick := s.tick + es.length }

/-- The session of `70_reset_and_hazards.md` section 5. That a POR inside a session does not end it is the model's deduction (notes/assumptions/36); that the mode-select snapshot is no publish is D22 (notes/assumptions/18). -/
def Obligations.SessionIsWhatLiesBetweenSelectAndDeselect : Prop :=
  (∀ (s : State) (es rest : List Event), Event.deselect ∉ es →
      ∃ o u, runEvents s (.select :: (es ++ [.deselect])) = some u
        ∧ observe s (.select :: (es ++ .deselect :: rest)) = o :: observe u rest
        ∧ o.filterMap Observed.host = hostBytes es
        ∧ o.filterMap Observed.output = emits s (.select :: es)
        ∧ (s.cfgDone = true → Event.por ∉ es → o.filterMap Observed.snapshot = snapshots es))
    ∧ (∀ (s : State) (raw raw' : Snapshot) (rest : List Event), s.cfgDone = false →
        ∃ u, runEvents s [.select, .snap raw, .snap raw', .deselect] = some u
          ∧ observe s (.select :: .snap raw :: .snap raw' :: .deselect :: rest) = [.publish raw'] :: observe u rest)

/-- The pseudo-events of the script notation (D26). -/
def Obligations.ScriptPseudoEvents : Prop :=
  (∀ bs : List Button, ∃ raw, hold bs = .snap raw
      ∧ (∀ i, i < 16 → (raw.getLsbD i = false ↔ ∃ btn ∈ bs, btn.bit = i))
      ∧ boot bs = [.por, .snap raw])
    ∧ pollBase = [.select, .rx 0x01#8, .rx 0x42#8, .rx 0x00#8, .rx 0x00#8, .rx 0x00#8, .deselect]
    ∧ (∃ mid, pollExt = .select :: .rx 0x01#8 :: .rx 0x42#8 :: (mid ++ [.deselect])
        ∧ mid = List.replicate 19 (.rx 0x00#8))
end

