-- ==== Sys2Proof/Laws/Decode.lean ====
section
/-! SUPPORT. Small lemmas about the state codes and the decode key. -/

namespace Sys2Proof

/-- The code of a state names that state again (R74). -/
@[simp] theorem SeqState.ofCode_code (st : SeqState) : SeqState.ofCode st.code = st := by
  cases st <;> rfl

/-- Every code is some state's: no code is reserved (R74). -/
@[simp] theorem SeqState.code_ofCode (c : BitVec 3) : (SeqState.ofCode c).code = c := by
  revert c
  decide

/-- The state bits of a key (R72). -/
@[simp] theorem Key.state_keyOf (st : SeqState) (b : Byte) : Key.state (keyOf st b) = st := by
  have h : (keyOf st b).extractLsb' 8 3 = st.code := by
    unfold keyOf
    exact BitVec.extractLsb'_append_eq_left
  rw [Key.state, h, SeqState.ofCode_code]

/-- The byte bits of a key (R72). -/
@[simp] theorem Key.byte_keyOf (st : SeqState) (b : Byte) : Key.byte (keyOf st b) = b := by
  unfold Key.byte keyOf
  exact BitVec.extractLsb'_append_eq_right

/-- A key is made of its state and its byte (R72). -/
theorem Key.eq_keyOf (k : Key) : keyOf (Key.state k) (Key.byte k) = k := by
  apply BitVec.eq_of_getLsbD_eq
  intro i hi
  simp only [keyOf, Key.state, Key.byte, SeqState.code_ofCode, BitVec.getLsbD_append,
    BitVec.getLsbD_extractLsb']
  by_cases h : i < 8
  · simp [h]
  · have h3 : i - 8 < 3 := by omega
    have h8 : 8 + (i - 8) = i := by omega
    simp [h, h3, h8]

/-- An accepted byte is decoded by the state and the byte (R73). -/
@[simp] theorem decode_hostByte (st : SeqState) (b : Byte) :
    decode (.hostByte true (keyOf st b)) = decodeByte st b := by
  simp [decode]

end Sys2Proof
end

