-- ==== Sys2Proof/Laws/State.lean ====
section
/-! SUPPORT. One lemma per field and per shared update of State, true by rfl, for simp: no later proof unfolds a record
update. -/

namespace Sys2Proof.Machine

/-! ### State.silent: an event without output -/

@[simp] theorem State.silent_st (s : State) : s.silent.st = s.st := rfl
@[simp] theorem State.silent_stickRem (s : State) : s.silent.stickRem = s.stickRem := rfl
@[simp] theorem State.silent_abSent (s : State) : s.silent.abSent = s.abSent := rfl
@[simp] theorem State.silent_txbuf (s : State) : s.silent.txbuf = s.txbuf := rfl
@[simp] theorem State.silent_ack (s : State) : s.silent.ack = s.ack := rfl
@[simp] theorem State.silent_btnmask (s : State) : s.silent.btnmask = s.btnmask := rfl
@[simp] theorem State.silent_analog (s : State) : s.silent.analog = s.analog := rfl
@[simp] theorem State.silent_tsel (s : State) : s.silent.tsel = s.tsel := rfl
@[simp] theorem State.silent_ext (s : State) : s.silent.ext = s.ext := rfl
@[simp] theorem State.silent_cfgDone (s : State) : s.silent.cfgDone = s.cfgDone := rfl
@[simp] theorem State.silent_att (s : State) : s.silent.att = s.att := rfl
@[simp] theorem State.silent_tables (s : State) : s.silent.tables = s.tables := rfl
@[simp] theorem State.silent_attnPin (s : State) : s.silent.attnPin = s.attnPin := rfl
@[simp] theorem State.silent_input (s : State) : s.silent.input = s.input := rfl
@[simp] theorem State.silent_emit (s : State) : s.silent.emit = none := rfl
@[simp] theorem State.silent_wire (s : State) : s.silent.wire = none := rfl
@[simp] theorem State.silent_tick (s : State) : s.silent.tick = s.tick := rfl

/-! ### State.unanswered: a byte that is not accepted (R141) -/

@[simp] theorem State.unanswered_st (s : State) : s.unanswered.st = s.st := rfl
@[simp] theorem State.unanswered_stickRem (s : State) : s.unanswered.stickRem = s.stickRem := rfl
@[simp] theorem State.unanswered_abSent (s : State) : s.unanswered.abSent = s.abSent := rfl
@[simp] theorem State.unanswered_txbuf (s : State) : s.unanswered.txbuf = s.txbuf := rfl
@[simp] theorem State.unanswered_ack (s : State) : s.unanswered.ack = s.ack := rfl
@[simp] theorem State.unanswered_btnmask (s : State) : s.unanswered.btnmask = s.btnmask := rfl
@[simp] theorem State.unanswered_analog (s : State) : s.unanswered.analog = s.analog := rfl
@[simp] theorem State.unanswered_tsel (s : State) : s.unanswered.tsel = s.tsel := rfl
@[simp] theorem State.unanswered_ext (s : State) : s.unanswered.ext = s.ext := rfl
@[simp] theorem State.unanswered_cfgDone (s : State) : s.unanswered.cfgDone = s.cfgDone := rfl
@[simp] theorem State.unanswered_att (s : State) : s.unanswered.att = s.att := rfl
@[simp] theorem State.unanswered_tables (s : State) : s.unanswered.tables = s.tables := rfl
@[simp] theorem State.unanswered_attnPin (s : State) : s.unanswered.attnPin = s.attnPin := rfl
@[simp] theorem State.unanswered_input (s : State) : s.unanswered.input = s.input := rfl
@[simp] theorem State.unanswered_emit (s : State) : s.unanswered.emit = none := rfl
@[simp] theorem State.unanswered_wire (s : State) : s.unanswered.wire = (if s.att then some s.txbuf else none) := rfl
@[simp] theorem State.unanswered_tick (s : State) : s.unanswered.tick = s.tick := rfl

/-! ### State.accept: the commit of an accepted byte (R140) -/

@[simp] theorem State.accept_st (s : State) (r : Byte) (a : Bool) : (s.accept r a).st = s.st := rfl
@[simp] theorem State.accept_stickRem (s : State) (r : Byte) (a : Bool) : (s.accept r a).stickRem = s.stickRem := rfl
@[simp] theorem State.accept_abSent (s : State) (r : Byte) (a : Bool) : (s.accept r a).abSent = s.abSent := rfl
@[simp] theorem State.accept_txbuf (s : State) (r : Byte) (a : Bool) : (s.accept r a).txbuf = r := rfl
@[simp] theorem State.accept_ack (s : State) (r : Byte) (a : Bool) : (s.accept r a).ack = ackAfter a := rfl
@[simp] theorem State.accept_btnmask (s : State) (r : Byte) (a : Bool) : (s.accept r a).btnmask = s.btnmask := rfl
@[simp] theorem State.accept_analog (s : State) (r : Byte) (a : Bool) : (s.accept r a).analog = s.analog := rfl
@[simp] theorem State.accept_tsel (s : State) (r : Byte) (a : Bool) : (s.accept r a).tsel = s.tsel := rfl
@[simp] theorem State.accept_ext (s : State) (r : Byte) (a : Bool) : (s.accept r a).ext = s.ext := rfl
@[simp] theorem State.accept_cfgDone (s : State) (r : Byte) (a : Bool) : (s.accept r a).cfgDone = s.cfgDone := rfl
@[simp] theorem State.accept_att (s : State) (r : Byte) (a : Bool) : (s.accept r a).att = s.att := rfl
@[simp] theorem State.accept_tables (s : State) (r : Byte) (a : Bool) : (s.accept r a).tables = s.tables := rfl
@[simp] theorem State.accept_attnPin (s : State) (r : Byte) (a : Bool) : (s.accept r a).attnPin = s.attnPin := rfl
@[simp] theorem State.accept_input (s : State) (r : Byte) (a : Bool) : (s.accept r a).input = s.input := rfl
@[simp] theorem State.accept_emit (s : State) (r : Byte) (a : Bool) : (s.accept r a).emit = some { r := r, a := a } := rfl
@[simp] theorem State.accept_wire (s : State) (r : Byte) (a : Bool) : (s.accept r a).wire = some (wireByte params.txAlign s.txbuf r) := rfl
@[simp] theorem State.accept_tick (s : State) (r : Byte) (a : Bool) : (s.accept r a).tick = s.tick := rfl

/-! ### State.sessionReset: the session reset (R153) -/

@[simp] theorem State.sessionReset_st (s : State) : s.sessionReset.st = .idle := rfl
@[simp] theorem State.sessionReset_stickRem (s : State) : s.sessionReset.stickRem = nStick := rfl
@[simp] theorem State.sessionReset_abSent (s : State) : s.sessionReset.abSent = 0#4 := rfl
@[simp] theorem State.sessionReset_txbuf (s : State) : s.sessionReset.txbuf = params.neutral := rfl
@[simp] theorem State.sessionReset_ack (s : State) : s.sessionReset.ack = .idle := rfl
@[simp] theorem State.sessionReset_btnmask (s : State) : s.sessionReset.btnmask = s.btnmask := rfl
@[simp] theorem State.sessionReset_analog (s : State) : s.sessionReset.analog = s.analog := rfl
@[simp] theorem State.sessionReset_tsel (s : State) : s.sessionReset.tsel = s.tsel := rfl
@[simp] theorem State.sessionReset_ext (s : State) : s.sessionReset.ext = s.ext := rfl
@[simp] theorem State.sessionReset_cfgDone (s : State) : s.sessionReset.cfgDone = s.cfgDone := rfl
@[simp] theorem State.sessionReset_att (s : State) : s.sessionReset.att = s.att := rfl
@[simp] theorem State.sessionReset_tables (s : State) : s.sessionReset.tables = s.tables := rfl
@[simp] theorem State.sessionReset_attnPin (s : State) : s.sessionReset.attnPin = s.attnPin := rfl
@[simp] theorem State.sessionReset_input (s : State) : s.sessionReset.input = s.input := rfl
@[simp] theorem State.sessionReset_emit (s : State) : s.sessionReset.emit = s.emit := rfl
@[simp] theorem State.sessionReset_wire (s : State) : s.sessionReset.wire = s.wire := rfl
@[simp] theorem State.sessionReset_tick (s : State) : s.sessionReset.tick = s.tick := rfl

/-! ### State.elapse: the time before a step -/

@[simp] theorem State.elapse_st (s : State) : s.elapse.st = s.st := rfl
@[simp] theorem State.elapse_stickRem (s : State) : s.elapse.stickRem = s.stickRem := rfl
@[simp] theorem State.elapse_abSent (s : State) : s.elapse.abSent = s.abSent := rfl
@[simp] theorem State.elapse_txbuf (s : State) : s.elapse.txbuf = s.txbuf := rfl
@[simp] theorem State.elapse_ack (s : State) : s.elapse.ack = s.ack.after (Config.ackProgress s.tick) := rfl
@[simp] theorem State.elapse_btnmask (s : State) : s.elapse.btnmask = s.btnmask := rfl
@[simp] theorem State.elapse_analog (s : State) : s.elapse.analog = s.analog := rfl
@[simp] theorem State.elapse_tsel (s : State) : s.elapse.tsel = s.tsel := rfl
@[simp] theorem State.elapse_ext (s : State) : s.elapse.ext = s.ext := rfl
@[simp] theorem State.elapse_cfgDone (s : State) : s.elapse.cfgDone = s.cfgDone := rfl
@[simp] theorem State.elapse_att (s : State) : s.elapse.att = s.att := rfl
@[simp] theorem State.elapse_tables (s : State) : s.elapse.tables = s.tables := rfl
@[simp] theorem State.elapse_attnPin (s : State) : s.elapse.attnPin = s.attnPin := rfl
@[simp] theorem State.elapse_input (s : State) : s.elapse.input = s.input := rfl
@[simp] theorem State.elapse_emit (s : State) : s.elapse.emit = s.emit := rfl
@[simp] theorem State.elapse_wire (s : State) : s.elapse.wire = s.wire := rfl
@[simp] theorem State.elapse_tick (s : State) : s.elapse.tick = s.tick + 1 := rfl

/-! ### State.published: the buffers after a publish -/

@[simp] theorem State.published_st (s : State) (raw : Snapshot) : (s.published raw).st = s.st := rfl
@[simp] theorem State.published_stickRem (s : State) (raw : Snapshot) : (s.published raw).stickRem = s.stickRem := rfl
@[simp] theorem State.published_abSent (s : State) (raw : Snapshot) : (s.published raw).abSent = s.abSent := rfl
@[simp] theorem State.published_txbuf (s : State) (raw : Snapshot) : (s.published raw).txbuf = s.txbuf := rfl
@[simp] theorem State.published_ack (s : State) (raw : Snapshot) : (s.published raw).ack = s.ack := rfl
@[simp] theorem State.published_btnmask (s : State) (raw : Snapshot) : (s.published raw).btnmask = (translateSnapshot (normalizeRaw raw) (tableOf s.tables s.tsel)).1 := rfl
@[simp] theorem State.published_analog (s : State) (raw : Snapshot) : (s.published raw).analog = (translateSnapshot (normalizeRaw raw) (tableOf s.tables s.tsel)).2 := rfl
@[simp] theorem State.published_tsel (s : State) (raw : Snapshot) : (s.published raw).tsel = s.tsel := rfl
@[simp] theorem State.published_ext (s : State) (raw : Snapshot) : (s.published raw).ext = s.ext := rfl
@[simp] theorem State.published_cfgDone (s : State) (raw : Snapshot) : (s.published raw).cfgDone = s.cfgDone := rfl
@[simp] theorem State.published_att (s : State) (raw : Snapshot) : (s.published raw).att = s.att := rfl
@[simp] theorem State.published_tables (s : State) (raw : Snapshot) : (s.published raw).tables = s.tables := rfl
@[simp] theorem State.published_attnPin (s : State) (raw : Snapshot) : (s.published raw).attnPin = s.attnPin := rfl
@[simp] theorem State.published_input (s : State) (raw : Snapshot) : (s.published raw).input = s.input := rfl
@[simp] theorem State.published_emit (s : State) (raw : Snapshot) : (s.published raw).emit = s.emit := rfl
@[simp] theorem State.published_wire (s : State) (raw : Snapshot) : (s.published raw).wire = s.wire := rfl
@[simp] theorem State.published_tick (s : State) (raw : Snapshot) : (s.published raw).tick = s.tick := rfl

/-! ### Values -/

@[simp] theorem params_neutral : params.neutral = 0xFF#8 := rfl
@[simp] theorem params_txAlign : params.txAlign = .nextExchange := rfl
@[simp] theorem wireByte_next (x r : Byte) : wireByte .nextExchange x r = x := rfl
@[simp] theorem ackAfter_true : ackAfter true = .delay := rfl
@[simp] theorem ackAfter_false : ackAfter false = .idle := rfl
@[simp] theorem nStick_eq : nStick = 4#3 := rfl
@[simp] theorem nAnalogCount_eq : nAnalogCount = 12#4 := rfl

/-- ACK_N is released unless the one-shot is in its second phase (R32). -/
theorem State.ackN_eq_false_iff (s : State) : s.ackN = false ↔ s.ack = .low := by
  simp [State.ackN]

theorem State.ackN_eq_true_iff (s : State) : s.ackN = true ↔ s.ack ≠ .low := by
  simp [State.ackN]

end Sys2Proof.Machine
end

