-- ==== Sys2Proof/Laws/Events.lean ====
section
/-! SUPPORT. What delivering an event and taking a step can do, said once: every later proof cites these instead of
unfolding `exec`, `deliver`, `takeEvent` or `step`. -/

namespace Sys2Proof.Machine

/-- Every meaning answers a next state (`60_exceptions.md` R180). -/
theorem exec_next (i : Instr) (s : State) : ∃ t, exec i s = .next t := by
  cases i <;> exact ⟨_, rfl⟩

/-! ### The attention line when an event arrives -/

@[simp] theorem State.arrive_por (s : State) : s.arrive .por = s := rfl
@[simp] theorem State.arrive_snap (s : State) (raw : Snapshot) : s.arrive (.snap raw) = s := rfl
@[simp] theorem State.arrive_rx (s : State) (b : Byte) : s.arrive (.rx b) = s := rfl
@[simp] theorem State.arrive_select (s : State) : s.arrive .select = { s with attnPin := true } := rfl
@[simp] theorem State.arrive_deselect (s : State) : s.arrive .deselect = { s with attnPin := false } := rfl

/-- Moving the line beforehand to where the event moves it makes no difference. -/
theorem deliver_arrive (e : Event) (s : State) : deliver e (s.arrive e) = deliver e s := by
  cases e <;> rfl

/-- Every event answers a next state (`42_responder.md` R160). -/
theorem deliver_next (e : Event) (s : State) : ∃ t, deliver e s = .next t := exec_next _ _

/-! ### The events, by the state they meet -/

/-- A byte while the responder is not enabled or not selected: row 1 of R73. -/
theorem deliver_rx_disabled {s : State} (b : Byte) (h : s.rxEnabled = false) :
    deliver (.rx b) s = .next s.unanswered := by
  simp [deliver, State.sample, h, decode, exec, execRxDisabled]

/-- An accepted byte: rows 2 to 11 of R73. -/
theorem deliver_rx_enabled {s : State} (b : Byte) (h : s.rxEnabled = true) :
    deliver (.rx b) s = exec (decodeByte s.st b) s := by
  simp [deliver, State.sample, h]

/-- The first snapshot after POR (R104). -/
theorem deliver_snap_modesel {s : State} (raw : Snapshot) (h : s.cfgDone = false) :
    deliver (.snap raw) s = execSnapModesel raw s := by
  simp [deliver, State.sample, h, decode, exec]

/-- A later snapshot (R104). -/
theorem deliver_snap_publish {s : State} (raw : Snapshot) (h : s.cfgDone = true) :
    deliver (.snap raw) s = execSnapPublish raw s := by
  simp [deliver, State.sample, h, decode, exec]

theorem deliver_por (s : State) : deliver .por s = execPor s := rfl
theorem deliver_select (s : State) : deliver .select s = execSelect { s with attnPin := true } := rfl
theorem deliver_deselect (s : State) :
    deliver .deselect s = execDeselect { s with attnPin := false } := rfl

/-- What an accepted byte can do (R142-R151): one case per row, with the state and the byte that chose it. -/
theorem deliver_rx_cases {s t : State} {b : Byte} (h : s.rxEnabled = true) (ht : deliver (.rx b) s = .next t) :
    (s.st = .idle ∧ b = startCmd ∧
      t = { s.accept (if s.ext then params.idExt else params.idBase) true with st := .ready })
    ∨ (s.st = .idle ∧ b ≠ startCmd ∧ t = { s.accept params.neutral false with st := .passive })
    ∨ (s.st = .ready ∧ b = readCmd ∧ t = { s.accept dataStart true with st := .sendLo })
    ∨ (s.st = .ready ∧ b ≠ readCmd ∧ t = s.accept params.neutral false)
    ∨ (s.st = .sendLo ∧ t = { s.accept (lowByte s.btnmask) true with st := .sendHi })
    ∨ (s.st = .sendHi ∧ t = { s.accept (highByte s.btnmask) true with st := if s.ext then .sticks else .done })
    ∨ (s.st = .sticks ∧
        t = { s.accept params.stickNeutral true with
              stickRem := s.stickRem - 1#3
              st := if s.stickRem - 1#3 = 0#3 then .analog else s.st })
    ∨ (s.st = .analog ∧
        t = { s.accept (analogAt s.analog s.abSent.toNat) true with
              abSent := s.abSent + 1#4
              st := if s.abSent + 1#4 = nAnalogCount then .done else s.st })
    ∨ ((s.st = .done ∨ s.st = .passive) ∧ t = s.accept params.neutral false) := by
  rw [deliver_rx_enabled b h] at ht
  have hcases : s.st = .idle ∨ s.st = .ready ∨ s.st = .sendLo ∨ s.st = .sendHi ∨ s.st = .sticks
      ∨ s.st = .analog ∨ s.st = .done ∨ s.st = .passive := by
    cases s.st <;> simp
  obtain hs | hs | hs | hs | hs | hs | hs | hs := hcases <;> rw [hs] at ht <;> simp only [decodeByte] at ht
  · by_cases hb : b = startCmd
    · rw [if_pos hb] at ht
      injection ht with ht
      exact .inl ⟨hs, hb, ht.symm⟩
    · rw [if_neg hb] at ht
      injection ht with ht
      exact .inr (.inl ⟨hs, hb, ht.symm⟩)
  · by_cases hb : b = readCmd
    · rw [if_pos hb] at ht
      injection ht with ht
      exact .inr (.inr (.inl ⟨hs, hb, ht.symm⟩))
    · rw [if_neg hb] at ht
      injection ht with ht
      exact .inr (.inr (.inr (.inl ⟨hs, hb, ht.symm⟩)))
  all_goals injection ht with ht
  · exact .inr (.inr (.inr (.inr (.inl ⟨hs, ht.symm⟩))))
  · exact .inr (.inr (.inr (.inr (.inr (.inl ⟨hs, ht.symm⟩)))))
  · exact .inr (.inr (.inr (.inr (.inr (.inr (.inl ⟨hs, ht.symm⟩))))))
  · exact .inr (.inr (.inr (.inr (.inr (.inr (.inr (.inl ⟨hs, ht.symm⟩)))))))
  · exact .inr (.inr (.inr (.inr (.inr (.inr (.inr (.inr ⟨.inl hs, ht.symm⟩)))))))
  · exact .inr (.inr (.inr (.inr (.inr (.inr (.inr (.inr ⟨.inr hs, ht.symm⟩)))))))

/-- What any event can do: the five kinds of event, each with the state after it. -/
theorem deliver_cases {s t : State} {e : Event} (ht : deliver e s = .next t) :
    (e = .por ∧ execPor s = .next t)
    ∨ (∃ raw, e = .snap raw ∧ s.cfgDone = false ∧ execSnapModesel raw s = .next t)
    ∨ (∃ raw, e = .snap raw ∧ s.cfgDone = true ∧ t = (s.published raw).silent)
    ∨ (e = .select ∧ t = { s.silent with att := true, attnPin := true })
    ∨ (e = .deselect ∧ t = { s.sessionReset.silent with att := false, attnPin := false })
    ∨ (∃ b, e = .rx b ∧ s.rxEnabled = false ∧ t = s.unanswered)
    ∨ (∃ b, e = .rx b ∧ s.rxEnabled = true ∧ deliver (.rx b) s = .next t) := by
  cases e with
  | por => simpa [deliver_por] using ht
  | snap raw =>
    cases hc : s.cfgDone
    · rw [deliver_snap_modesel raw hc] at ht; simp [ht]
    · rw [deliver_snap_publish raw hc] at ht
      injection ht with ht
      subst ht
      simp
      rfl
  | select =>
    rw [deliver_select] at ht
    injection ht with ht
    simp [← ht]
  | deselect =>
    rw [deliver_deselect] at ht
    injection ht with ht
    simp [← ht]
  | rx b =>
    cases hr : s.rxEnabled
    · rw [deliver_rx_disabled b hr] at ht
      injection ht with ht
      simp [← ht]
    · simp [ht]

/-! ### The step -/

/-- Taking an event changes the input, the attention line, and nothing else. -/
theorem takeEvent_frame (s : State) :
    s.takeEvent.1 = { s with attnPin := s.takeEvent.1.attnPin, input := s.takeEvent.1.input } := by
  unfold State.takeEvent
  split <;> rfl

/-- What a step can do: wait, or deliver one event. -/
theorem step_cases {s t : State} (h : step s = .next t) :
    (s.elapse.takeEvent.2 = none ∧ t = s.elapse.takeEvent.1.silent)
    ∨ (∃ e, s.elapse.takeEvent.2 = some e ∧ deliver e s.elapse.takeEvent.1 = .next t) := by
  unfold step at h
  split at h
  · next u hu =>
    injection h with h
    simp [hu, h]
  · next u e hu => simp [hu, h]

/-- The first event of an instant that moves the line moves it to the level the instant gives. -/
theorem nextEvent_attn {i : Instant} {f : Bool} {e : Event} (h : (nextEvent i f).1 = some e) (l : Bool) :
    (Instant.ofEvent e).attn.getD (i.attn.getD l) = i.attn.getD l := by
  obtain ⟨por, attn, rx, snap⟩ := i
  cases por
  · rcases attn with _ | _ | _ <;> cases rx <;> cases snap <;> cases f <;> cases h <;> rfl
  · cases h; rfl

/-- A taken event finds the line already at its own level. -/
theorem takeEvent_arrive {s t : State} {e : Event} (h : s.takeEvent = (t, some e)) : t.arrive e = t := by
  unfold State.takeEvent at h
  split at h
  · cases h
  · next i rest _ =>
    injection h with h1 h2
    subst h1
    simp only [State.arrive, nextEvent_attn h2]

/-- A step whose event is `e`: the decoded event, executed. -/
theorem step_of_takeEvent {s t : State} {e : Event} (h : s.elapse.takeEvent = (t, some e)) :
    step s = exec (decode (t.sample e)) t := by
  rw [step, h]
  show exec (decode (t.sample e)) (t.arrive e) = _
  rw [takeEvent_arrive h]

/-- An instant with one event is taken whole. -/
theorem nextEvent_ofEvent (e : Event) (f : Bool) : nextEvent (.ofEvent e) f = (some e, Instant.quiet) := by
  cases e <;> rfl

/-- Nothing pending: nothing is taken. -/
theorem takeEvent_nil {s : State} (h : s.input = []) : s.takeEvent = (s, none) := by
  simp [State.takeEvent, h]

/-- A single pending event is taken from the head of the input; an attention edge moves the line. -/
theorem takeEvent_ofEvent {s : State} {e : Event} {rest : List Instant} (h : s.input = Instant.ofEvent e :: rest) :
    s.takeEvent = ({ s with attnPin := (Instant.ofEvent e).attn.getD s.attnPin, input := rest }, some e) := by
  simp [State.takeEvent, h, nextEvent_ofEvent]

end Sys2Proof.Machine
end

