-- ==== Sys2Proof/Laws/Mapping.lean ====
section
/-! SUPPORT. What TRANSLATE does, bit by bit and channel by channel (`40_mapping.md` R101, R107), for a loop that starts
anywhere. -/

namespace Sys2Proof.Machine

/-- Clearing a bit clears that bit and no other. -/
theorem clearBit_getLsbD (m : Mask) (d i : Nat) (hi : i < 16) :
    (clearBit m d).getLsbD i = (m.getLsbD i && !decide (d = i)) := by
  by_cases h : d = i
  · subst h; simp [clearBit, hi]
  · by_cases h2 : i < d
    · simp [clearBit, hi, h, h2]
    · have h3 : i - d ≠ 0 := by omega
      simp [clearBit, hi, h, h2, h3]

/-- Pressing a channel writes 0x00 there and nothing elsewhere. -/
theorem pressChannel_getElem (an : AnalogArray) (c i : Nat) (hi : i < 12) :
    (pressChannel an c)[i] = if c = i then abPressed else an[i] := by
  simp [pressChannel, Vector.getElem_setIfInBounds]

/-- One entry's effect on a mask bit. -/
theorem translateEntry_mask (S : Snapshot) (acc : Mask × AnalogArray) (e : Entry) (i : Nat) (hi : i < 16) :
    (translateEntry S acc e).1.getLsbD i
      = (acc.1.getLsbD i && !(decide (e.dst = i) && pressed S e.src)) := by
  unfold translateEntry
  split
  · next h => simp [h, clearBit_getLsbD _ _ _ hi]
  · next h => simp [h]

/-- One entry's effect on a channel. -/
theorem translateEntry_channel (S : Snapshot) (acc : Mask × AnalogArray) (e : Entry) (i : Nat) (hi : i < 12) :
    (translateEntry S acc e).2[i]
      = if decide (e.ach = some i) && pressed S e.src then abPressed else acc.2[i] := by
  unfold translateEntry
  split
  · next h =>
    cases hc : e.ach with
    | none => simp
    | some c => simp [h, pressChannel_getElem _ _ _ hi]
  · next h => simp [h]

/-- A mask bit after the loop: cleared exactly by the pressed entries with that destination. -/
theorem foldl_translateEntry_mask (S : Snapshot) (t : Table) (acc : Mask × AnalogArray) (i : Nat) (hi : i < 16) :
    (t.foldl (translateEntry S) acc).1.getLsbD i
      = (acc.1.getLsbD i && !(t.any fun e => decide (e.dst = i) && pressed S e.src)) := by
  induction t generalizing acc with
  | nil => simp
  | cons e t ih => simp [ih, translateEntry_mask _ _ _ _ hi, Bool.and_assoc]

/-- A channel after the loop: 0x00 exactly by the pressed entries with that channel. -/
theorem foldl_translateEntry_channel (S : Snapshot) (t : Table) (acc : Mask × AnalogArray) (i : Nat) (hi : i < 12) :
    (t.foldl (translateEntry S) acc).2[i]
      = if t.any (fun e => decide (e.ach = some i) && pressed S e.src) then abPressed else acc.2[i] := by
  induction t generalizing acc with
  | nil => simp
  | cons e t ih =>
    rw [List.foldl_cons, ih, translateEntry_channel _ _ _ _ hi]
    by_cases h : (decide (e.ach = some i) && pressed S e.src) = true <;> simp [List.any_cons, h]

/-- A mask bit of TRANSLATE (R107): the NOR, over the entries with that destination, of the selected snapshot bits. -/
theorem translateSnapshot_mask (S : Snapshot) (t : Table) (i : Nat) (hi : i < 16) :
    (translateSnapshot S t).1.getLsbD i = !(t.any fun e => decide (e.dst = i) && pressed S e.src) := by
  have h1 : ∀ j, j < 16 → (0xFFFF#16).getLsbD j = true := by decide
  rw [translateSnapshot, foldl_translateEntry_mask _ _ _ _ hi, h1 i hi, Bool.true_and]

/-- A channel of TRANSLATE (R107): 0x00 if an entry with that channel has its source pressed, 0xFF otherwise. -/
theorem translateSnapshot_channel (S : Snapshot) (t : Table) (i : Nat) (hi : i < 12) :
    (translateSnapshot S t).2[i]
      = if t.any (fun e => decide (e.ach = some i) && pressed S e.src) then abPressed else abReleased := by
  rw [translateSnapshot, foldl_translateEntry_channel _ _ _ _ hi, Vector.getElem_replicate]

end Sys2Proof.Machine
end

