-- ==== Sys2Proof/Laws/PerInstr.lean ====
section
/-! SUPPORT. The family TableRow: the key an instruction encodes to is one its own row of the opcode table matches
(`30_encoding.md` R73). The row is written here a second time, from `spec/opcode_table.json`, by instruction. -/

namespace Sys2Proof.Laws.TableRow

/-- Mask and match of an instruction's HOSTBYTE row; none for the EVENT rows and for RX_DISABLED, which has no mask. -/
def maskMatch : Instr → Option (Key × Key)
  | .rxDisabled _   => none
  | .rxIdleStart    => some (0x7FF#11, 0x001#11)
  | .rxIdleOther _  => some (0x700#11, 0x000#11)
  | .rxReadyRead    => some (0x7FF#11, 0x142#11)
  | .rxReadyOther _ => some (0x700#11, 0x100#11)
  | .rxSendLo _     => some (0x700#11, 0x200#11)
  | .rxSendHi _     => some (0x700#11, 0x300#11)
  | .rxStick _      => some (0x700#11, 0x400#11)
  | .rxAnalog _     => some (0x700#11, 0x500#11)
  | .rxDone _       => some (0x700#11, 0x600#11)
  | .rxPassive _    => some (0x700#11, 0x700#11)
  | .por            => none
  | .snapModesel _  => none
  | .snapPublish _  => none
  | .select         => none
  | .deselect       => none

/-- Where an instruction has a row with a mask, it encodes to an enabled host byte whose key that row matches. -/
def Statement (i : Instr) : Prop :=
  ∀ m p, maskMatch i = some (m, p) → ∃ k, encode i = .hostByte true k ∧ k &&& m = p

/-- The state bits of a key, under the mask of a catch-all row. -/
theorem keyOf_and_mask (st : SeqState) (b : Byte) : keyOf st b &&& 0x700#11 = st.code ++ 0#8 := by
  apply BitVec.eq_of_getLsbD_eq
  intro i hi
  have hm : ∀ j, j < 11 → (0x700#11).getLsbD j = decide (8 ≤ j) := by decide
  simp only [keyOf, BitVec.getLsbD_and, BitVec.getLsbD_append, hm i hi]
  by_cases h : i < 8
  · have h8 : ¬ 8 ≤ i := by omega
    simp [h, h8]
  · have h8 : 8 ≤ i := by omega
    simp [h, h8]

theorem rxDisabled (key : Key) : Statement (.rxDisabled key) := by intro m p h; cases h
theorem rxIdleStart : Statement .rxIdleStart := by intro m p h; cases h; exact ⟨_, rfl, by decide⟩
theorem rxIdleOther (b : Byte) : Statement (.rxIdleOther b) := by
  intro m p h; cases h; exact ⟨_, rfl, keyOf_and_mask _ _⟩
theorem rxReadyRead : Statement .rxReadyRead := by intro m p h; cases h; exact ⟨_, rfl, by decide⟩
theorem rxReadyOther (b : Byte) : Statement (.rxReadyOther b) := by
  intro m p h; cases h; exact ⟨_, rfl, keyOf_and_mask _ _⟩
theorem rxSendLo (b : Byte) : Statement (.rxSendLo b) := by
  intro m p h; cases h; exact ⟨_, rfl, keyOf_and_mask _ _⟩
theorem rxSendHi (b : Byte) : Statement (.rxSendHi b) := by
  intro m p h; cases h; exact ⟨_, rfl, keyOf_and_mask _ _⟩
theorem rxStick (b : Byte) : Statement (.rxStick b) := by
  intro m p h; cases h; exact ⟨_, rfl, keyOf_and_mask _ _⟩
theorem rxAnalog (b : Byte) : Statement (.rxAnalog b) := by
  intro m p h; cases h; exact ⟨_, rfl, keyOf_and_mask _ _⟩
theorem rxDone (b : Byte) : Statement (.rxDone b) := by
  intro m p h; cases h; exact ⟨_, rfl, keyOf_and_mask _ _⟩
theorem rxPassive (b : Byte) : Statement (.rxPassive b) := by
  intro m p h; cases h; exact ⟨_, rfl, keyOf_and_mask _ _⟩
theorem por : Statement .por := by intro m p h; cases h
theorem snapModesel (raw : Snapshot) : Statement (.snapModesel raw) := by intro m p h; cases h
theorem snapPublish (raw : Snapshot) : Statement (.snapPublish raw) := by intro m p h; cases h
theorem select : Statement .select := by intro m p h; cases h
theorem deselect : Statement .deselect := by intro m p h; cases h

end Sys2Proof.Laws.TableRow
end

