-- ==== Sys2Proof/Laws/Runs.lean ====
section
/-! SUPPORT. The first event of a run, split off: what a run emits, puts on the wire and leads to. -/

namespace Sys2Proof.Machine

@[simp] theorem emits_nil (s : State) : emits s [] = [] := rfl
@[simp] theorem wires_nil (s : State) : wires s [] = [] := rfl
@[simp] theorem observe_nil (s : State) : observe s [] = [] := rfl
@[simp] theorem observeFrom_nil (s : State) (cur : Option (List Observed)) : observeFrom s cur [] = cur.toList := rfl
@[simp] theorem runEvents_nil (s : State) : runEvents s [] = some s := rfl

/-- A run emits what its first event emits and then what the rest emits. -/
theorem emits_cons {s t : State} {e : Event} {es : List Event} (h : deliver e s = .next t) :
    emits s (e :: es) = t.emit.toList ++ emits t es := by
  simp only [emits, trace, h, List.filterMap_cons]
  cases t.emit <;> simp

/-- A run puts on the wire what its first event puts there and then what the rest does. -/
theorem wires_cons {s t : State} {e : Event} {es : List Event} (h : deliver e s = .next t) :
    wires s (e :: es) = t.wire.toList ++ wires t es := by
  simp only [wires, trace, h, List.filterMap_cons]
  cases t.wire <;> simp

/-- The first event of a run ends the session in progress, if it is DESELECT; the rest goes on with the session that is in
progress after it. -/
theorem observeFrom_cons {s t : State} {e : Event} {es : List Event} (cur : Option (List Observed))
    (h : deliver e s = .next t) :
    observeFrom s cur (e :: es)
      = (if e = .deselect then cur.toList else []) ++ observeFrom t (sessionAfter s e t.emit cur) es := by
  simp [observeFrom, h]

/-- DESELECT ends the session in progress. -/
theorem observeFrom_deselect {s t : State} {es : List Event} (cur : Option (List Observed))
    (h : deliver .deselect s = .next t) :
    observeFrom s cur (.deselect :: es) = cur.toList ++ observe t es := by
  rw [observeFrom_cons cur h, if_pos rfl]
  cases cur <;> rfl

/-- Inside a session every event but DESELECT adds what it shows. -/
theorem observeFrom_inside {s t : State} {e : Event} {es : List Event} (o : List Observed) (he : e ≠ .deselect)
    (h : deliver e s = .next t) :
    observeFrom s (some o) (e :: es) = observeFrom t (some (o ++ (observed s e t.emit).toList)) es := by
  rw [observeFrom_cons _ h, if_neg he, List.nil_append, sessionAfter, if_neg he]

/-- A run leads where the rest of it leads from the state after its first event. -/
theorem runEvents_cons {s t : State} {e : Event} {es : List Event} (h : deliver e s = .next t) :
    runEvents s (e :: es) = runEvents t es := by
  simp [runEvents, h]

/-- A run of any machine goes on from the state after its first step. -/
theorem run_succ (M : Host.Core) (k : Nat) (s t : M.State) (h : M.step s = .next t) :
    M.run (k + 1) s = M.run k t := by
  simp [Host.Core.run, h]

/-- The same for this machine. -/
theorem core_run_succ {s t : State} {k : Nat} (h : step s = .next t) :
    Host.Core.run Sys2Proof.core (k + 1) s = Host.Core.run Sys2Proof.core k t :=
  run_succ Sys2Proof.core k s t h

end Sys2Proof.Machine
end

