-- ==== Sys2Proof/Tests/Slice0.lean ====
section
/-! SUPPORT. The model's own tests. Expected values come from `95_test_vectors.md` (the vector is named), from the mapping
tables' named checks (`30_encoding.md` R79) and from the bit patterns of the opcode table. The last part shows, for every
statement with hypotheses, a concrete state and operands that meet them. -/

namespace Sys2Proof.Tests

open Sys2Proof.Machine

/-! ## Fixtures -/

/-- The illustrative table `T_EX` of `95_test_vectors.md` section 1 (a fixture, not a hardware table). -/
def tEx : Table :=
  [ ⟨15, 14, some 6⟩, ⟨14, 15, some 7⟩, ⟨13, 0, none⟩, ⟨12, 3, none⟩, ⟨11, 4, some 2⟩, ⟨10, 6, some 3⟩,
    ⟨9, 7, some 1⟩, ⟨8, 5, some 0⟩, ⟨7, 13, some 5⟩, ⟨6, 12, some 4⟩, ⟨5, 10, some 8⟩, ⟨4, 11, some 9⟩ ]

/-- Seven copies of `T_EX`. -/
def romEx : Rom := Vector.replicate 7 tEx

/-- The analog array of V-TR-14. -/
def analogEx : AnalogArray :=
  #v[0x00#8, 0xFF#8, 0x00#8, 0xFF#8, 0xFF#8, 0x00#8, 0xFF#8, 0xFF#8, 0xFF#8, 0xFF#8, 0xFF#8, 0xFF#8]

/-- A configured and selected core with the buffers of V-TR-14, at a given place of the session. -/
def sAt (st : SeqState) (sr : BitVec 3) (ab : BitVec 4) (ext : Bool) : State :=
  { State.reset with
    st := st, stickRem := sr, abSent := ab, ext := ext, cfgDone := true, att := true, attnPin := true
    btnmask := 0xDFCF#16, analog := analogEx, tables := romEx }

/-- A core after mode selection, with nobody selecting it. -/
def sDeselected : State := { sAt .idle 4#3 0#4 false with att := false, attnPin := false }

/-- A core after POR with the fixture ROM, before mode selection. -/
def sPowerOn : State := { State.reset with tables := romEx }

/-- A field of the next state, where there is one. -/
def after {α : Type} (o : Host.Outcome State Fault Refusal) (f : State → α) : Option α :=
  match o with
  | .next t    => some (f t)
  | .fault _   => none
  | .refused _ => none

/-- What an RX vector of `95_test_vectors.md` shows: response, acknowledge, and the session registers after. -/
def rxView (t : State) : Option (Byte × Bool) × SeqState × BitVec 3 × BitVec 4 :=
  (t.emit.map fun m => (m.r, m.a), t.st, t.stickRem, t.abSent)

/-! ## Well-formedness: one ill-formed term for each check -/

theorem test_wf_rxIdleOther_refuses_start : (Instr.rxIdleOther 0x01#8).wf = false := by decide
theorem test_wf_rxReadyOther_refuses_read : (Instr.rxReadyOther 0x42#8).wf = false := by decide
theorem test_wf_catchall_admits_other_commands :
    (Instr.rxIdleOther 0x42#8).wf = true ∧ (Instr.rxReadyOther 0x01#8).wf = true := by decide

theorem test_wf_fixture_passes : romEx.wf = true := by decide

/-- Seventeen entries. -/
theorem test_wf_len_refused :
    TableCheck.wfLen.holds (List.replicate 17 ⟨4, 0, none⟩) = false
      ∧ TableCheck.wfLen.holds (List.replicate 16 ⟨4, 0, none⟩) = true := by decide

/-- V-TR-23: an entry of `src` 2. -/
theorem test_wf_src_refused :
    Table.failing [⟨2, 0, none⟩] = some .wfSrc ∧ Table.failing [⟨3, 0, none⟩] = some .wfSrc
      ∧ Table.failing [⟨16, 0, none⟩] = some .wfSrc ∧ Table.failing [⟨4, 0, none⟩] = none := by decide

theorem test_wf_dst_refused : Table.failing [⟨4, 16, none⟩] = some .wfDst := by decide

/-- V-TR-22: two entries of `dst` 4. -/
theorem test_wf_dst_disjoint_refused :
    Table.failing [⟨4, 4, none⟩, ⟨5, 4, none⟩] = some .wfDstDisjoint := by decide

/-- V-TR-24: an entry of `ach` 12. -/
theorem test_wf_ach_refused :
    Table.failing [⟨4, 4, some 12⟩] = some .wfAch ∧ Table.failing [⟨4, 4, some 11⟩] = none := by decide

/-- One channel twice; NONE twice is allowed. -/
theorem test_wf_ach_disjoint_refused :
    Table.failing [⟨4, 4, some 3⟩, ⟨5, 5, some 3⟩] = some .wfAchDisjoint
      ∧ Table.failing [⟨4, 4, none⟩, ⟨5, 5, none⟩] = none := by decide

/-- A shared source is allowed (D28). -/
theorem test_wf_shared_source_allowed : Table.wf [⟨7, 13, some 5⟩, ⟨7, 14, none⟩] = true := by decide

/-- Configuration names the first failing table and its check. -/
theorem test_configure_refuses_by_name :
    Rom.failing (romEx.set 2 [⟨2, 0, none⟩]) = some (3, .wfSrc)
      ∧ configure (romEx.set 2 [⟨2, 0, none⟩]) = .refused (.illFormedTable 3 .wfSrc)
      ∧ after (configure romEx) State.cfgDone = some false := by
  refine ⟨by decide, rfl, by decide⟩

/-! ## Decode: keys written out bit by bit, state bits first -/

theorem test_decode_idle_start : decode (.hostByte true 0b000_00000001#11) = .rxIdleStart := by decide
theorem test_decode_idle_other : decode (.hostByte true 0b000_10000001#11) = .rxIdleOther 0b10000001#8 := by decide
theorem test_decode_ready_read : decode (.hostByte true 0b001_01000010#11) = .rxReadyRead := by decide
theorem test_decode_ready_other : decode (.hostByte true 0b001_01000011#11) = .rxReadyOther 0b01000011#8 := by decide
theorem test_decode_send_lo : decode (.hostByte true 0b010_01000010#11) = .rxSendLo 0b01000010#8 := by decide
theorem test_decode_send_hi : decode (.hostByte true 0b011_00000001#11) = .rxSendHi 0b00000001#8 := by decide
theorem test_decode_stick : decode (.hostByte true 0b100_00000001#11) = .rxStick 0b00000001#8 := by decide
theorem test_decode_analog : decode (.hostByte true 0b101_01000010#11) = .rxAnalog 0b01000010#8 := by decide
theorem test_decode_done : decode (.hostByte true 0b110_00000001#11) = .rxDone 0b00000001#8 := by decide
theorem test_decode_passive : decode (.hostByte true 0b111_00000001#11) = .rxPassive 0b00000001#8 := by decide
theorem test_decode_disabled :
    decode (.hostByte false 0b001_01000010#11) = .rxDisabled 0b001_01000010#11 := by decide

/-- The events without a byte, and the routing of a snapshot on CFG_DONE (`40_mapping.md` R104). -/
theorem test_decode_events :
    decode (sPowerOn.sample .por) = .por ∧ decode (sPowerOn.sample .select) = .select
      ∧ decode (sPowerOn.sample .deselect) = .deselect
      ∧ decode (sPowerOn.sample (.snap 0x7FFF#16)) = .snapModesel 0x7FFF#16
      ∧ decode (sDeselected.sample (.snap 0x7FFF#16)) = .snapPublish 0x7FFF#16 := by decide

/-- Table words: a key, a snapshot, and words that are neither. -/
theorem test_decode_table_words :
    decodeTableWord 16 0x142 = some .rxReadyRead ∧ decodeTableWord 16 0x7FF = some (.rxPassive 0xFF#8)
      ∧ decodeTableWord 16 0x800 = some (.snapModesel 0x0800#16)
      ∧ decodeTableWord 8 0 = none ∧ decodeTableWord 16 0x10000 = none := by decide

/-- The packed entries of the fixture (`95_test_vectors.md` section 1), both ways. -/
theorem test_entry_packing :
    tEx.map Entry.pack = [0xFE6#12, 0xEF7#12, 0xD0F#12, 0xC3F#12, 0xB42#12, 0xA63#12, 0x971#12, 0x850#12, 0x7D5#12,
      0x6C4#12, 0x5A8#12, 0x4B9#12]
      ∧ tEx.map (fun e => Entry.unpack e.pack) = tEx := by decide

/-- R60: table 2, entry 1 is at address 17; its slot has the valid bit set. -/
theorem test_rom_slots :
    romEx.slot 17 = some 0x1EF7#13 ∧ romEx.slot 12 = some 0x0000#13 ∧ romEx.slot 112 = none
      ∧ tableRead romEx 7#3 11 = some ⟨4, 11, some 9⟩ ∧ tableRead romEx 7#3 12 = none := by decide

/-! ## The RX rules: V-RX vectors -/

/-- V-RX-23 and V-RX-24. -/
theorem test_rx_disabled :
    after (deliver (.rx 0x01#8) { sAt .idle 4#3 0#4 false with cfgDone := false }) rxView
        = some (none, .idle, 4#3, 0#4)
      ∧ after (deliver (.rx 0x01#8) sDeselected) rxView = some (none, .idle, 4#3, 0#4) := by decide

/-- R191 and R156: a core selected before mode selection shifts TXBUF = NEUTRAL out; a deselected one exchanges nothing
(program P3's first byte). -/
theorem test_rx_disabled_wire :
    after (deliver (.rx 0x01#8) { sPowerOn with att := true }) State.wire = some (some 0xFF#8)
      ∧ after (deliver (.rx 0x01#8) sPowerOn) State.wire = some none := by decide

/-- V-RX-1 and V-RX-2. -/
theorem test_rx_idle_start :
    after (deliver (.rx 0x01#8) (sAt .idle 4#3 0#4 false)) rxView = some (some (0x41#8, true), .ready, 4#3, 0#4)
      ∧ after (deliver (.rx 0x01#8) (sAt .idle 4#3 0#4 true)) rxView
        = some (some (0x79#8, true), .ready, 4#3, 0#4) := by decide

/-- V-RX-4 and V-RX-5. -/
theorem test_rx_idle_other :
    after (deliver (.rx 0x42#8) (sAt .idle 4#3 0#4 false)) rxView = some (some (0xFF#8, false), .passive, 4#3, 0#4)
      ∧ after (deliver (.rx 0x00#8) (sAt .idle 4#3 0#4 true)) rxView
        = some (some (0xFF#8, false), .passive, 4#3, 0#4) := by decide

/-- V-RX-7. -/
theorem test_rx_ready_read :
    after (deliver (.rx 0x42#8) (sAt .ready 4#3 0#4 false)) rxView
      = some (some (0x5A#8, true), .sendLo, 4#3, 0#4) := by decide

/-- V-RX-8 and V-RX-9. -/
theorem test_rx_ready_other :
    after (deliver (.rx 0x01#8) (sAt .ready 4#3 0#4 false)) rxView = some (some (0xFF#8, false), .ready, 4#3, 0#4)
      ∧ after (deliver (.rx 0x43#8) (sAt .ready 4#3 0#4 true)) rxView
        = some (some (0xFF#8, false), .ready, 4#3, 0#4) := by decide

/-- V-RX-11 and V-RX-12. -/
theorem test_rx_send_lo :
    after (deliver (.rx 0x00#8) (sAt .sendLo 4#3 0#4 false)) rxView = some (some (0xCF#8, true), .sendHi, 4#3, 0#4)
      ∧ after (deliver (.rx 0xFF#8) (sAt .sendLo 4#3 0#4 false)) rxView
        = some (some (0xCF#8, true), .sendHi, 4#3, 0#4) := by decide

/-- V-RX-13 and V-RX-14. -/
theorem test_rx_send_hi :
    after (deliver (.rx 0x00#8) (sAt .sendHi 4#3 0#4 false)) rxView = some (some (0xDF#8, true), .done, 4#3, 0#4)
      ∧ after (deliver (.rx 0x5A#8) (sAt .sendHi 4#3 0#4 true)) rxView
        = some (some (0xDF#8, true), .sticks, 4#3, 0#4) := by decide

/-- V-RX-15 and V-RX-16. -/
theorem test_rx_stick :
    after (deliver (.rx 0x00#8) (sAt .sticks 4#3 0#4 true)) rxView = some (some (0x80#8, true), .sticks, 3#3, 0#4)
      ∧ after (deliver (.rx 0x00#8) (sAt .sticks 1#3 0#4 true)) rxView
        = some (some (0x80#8, true), .analog, 0#3, 0#4) := by decide

/-- V-RX-17. -/
theorem test_rx_analog_first :
    after (deliver (.rx 0x00#8) (sAt .analog 0#3 0#4 true)) rxView
      = some (some (0x00#8, true), .analog, 0#3, 1#4) := by decide

/-- V-RX-18 and V-RX-19. -/
theorem test_rx_analog_second_and_last :
    after (deliver (.rx 0x00#8) (sAt .analog 0#3 1#4 true)) rxView = some (some (0xFF#8, true), .analog, 0#3, 2#4)
      ∧ after (deliver (.rx 0x00#8) (sAt .analog 0#3 11#4 true)) rxView
        = some (some (0xFF#8, true), .done, 0#3, 12#4) := by decide

/-- V-RX-20 and V-RX-21. -/
theorem test_rx_done :
    after (deliver (.rx 0x01#8) (sAt .done 4#3 0#4 false)) rxView = some (some (0xFF#8, false), .done, 4#3, 0#4)
      ∧ after (deliver (.rx 0x00#8) (sAt .done 0#3 12#4 true)) rxView
        = some (some (0xFF#8, false), .done, 0#3, 12#4) := by decide

/-- V-RX-22. -/
theorem test_rx_passive :
    after (deliver (.rx 0x01#8) (sAt .passive 4#3 0#4 false)) rxView
      = some (some (0xFF#8, false), .passive, 4#3, 0#4) := by decide

/-! ## The other events -/

/-- R200: the session group. -/
theorem test_por_session :
    after (exec .por (sAt .analog 0#3 7#4 true)) (fun t => (t.st, t.stickRem, t.abSent, t.txbuf, t.ackN))
      = some (.idle, 4#3, 0#4, 0xFF#8, true) := by decide

/-- R200: the buffers and the configuration; the attention line is asserted, so ATT is. -/
theorem test_por_configuration :
    after (exec .por (sAt .analog 0#3 7#4 true)) (fun t =>
      (t.btnmask, t.analog.toList, t.tsel, t.ext, t.cfgDone, t.att))
      = some (0xFFFF#16, List.replicate 12 0x00#8, 1#3, false, false, true) := by decide

/-- V-MS-14 (Up+Select) and V-MS-12 (A+B). -/
theorem test_snap_modesel :
    after (deliver (.snap 0xD7FF#16) sPowerOn) (fun t => (t.tsel, t.ext, t.cfgDone)) = some (2#3, true, true)
      ∧ after (deliver (.snap 0x7F7F#16) sPowerOn) (fun t => (t.tsel, t.ext, t.analog.toList))
        = some (3#3, false, List.replicate 12 0x00#8) := by decide

/-- V-TR-14 through PUBLISH. -/
theorem test_snap_publish :
    after (deliver (.snap 0xF67F#16) sDeselected) (fun t => (t.btnmask, t.analog)) = some (0xDFCF#16, analogEx) := by
  decide

/-- V-PUB-1. -/
theorem test_snap_publish_keeps_session :
    after (deliver (.snap 0xEFFF#16) (sAt .sendHi 4#3 0#4 false)) (fun t =>
      (t.btnmask, t.analog.toList, t.st, t.stickRem, t.abSent))
      = some (0xFFF7#16, List.replicate 12 0xFF#8, .sendHi, 4#3, 0#4) := by decide

/-- V-SESS-6. -/
theorem test_select :
    after (deliver .select sDeselected) (fun t => (t.st, t.stickRem, t.abSent, t.att, t.txbuf))
      = some (.idle, 4#3, 0#4, true, 0xFF#8) := by decide

/-- V-SESS-3. -/
theorem test_deselect_in_analog :
    after (deliver .deselect { sAt .analog 0#3 7#4 true with txbuf := 0x00#8 }) (fun t =>
      (t.st, t.stickRem, t.abSent, t.txbuf, t.att)) = some (.idle, 4#3, 0#4, 0xFF#8, false) := by decide

/-- V-SESS-5: the pulse in progress is cut. -/
theorem test_deselect_cuts_pulse :
    State.ackN { sAt .ready 4#3 0#4 false with txbuf := 0x41#8, ack := .low } = false
      ∧ after (deliver .deselect { sAt .ready 4#3 0#4 false with txbuf := 0x41#8, ack := .low }) (fun t =>
        (t.txbuf, t.ackN)) = some (0xFF#8, true) := by decide

/-- V-SESS-7: DESELECT together with RX 0x01; the RX is dropped. -/
theorem test_step_deselect_beats_rx :
    after (step { sAt .idle 4#3 0#4 false with input := [⟨false, some false, some 0x01#8, none⟩] }) (fun t =>
      (t.st, t.att, t.emit, t.input)) = some (.idle, false, none, []) := by decide

/-- The step runs the placed instruction: V-RX-7 by its table word. -/
theorem test_step_of_table_word :
    after (step (sPowerOn.withFetchWord 16 0x142)) rxView = some (some (0x5A#8, true), .sendLo, 4#3, 0#4) := by decide

/-- The first snapshot after reset, by its table word: V-MS-2. -/
theorem test_step_of_snapshot_word :
    after (step (sPowerOn.withFetchWord 16 0xDFFF)) (fun t => (t.tsel, t.ext, t.cfgDone))
      = some (2#3, false, true) := by decide

/-! ## Shared operations -/

/-- V-TR-1, V-TR-3, V-TR-13, V-TR-15, V-TR-16, V-TR-18, V-TR-19: masks. -/
theorem test_translate_masks :
    (translateSnapshot 0x8000#16 tEx).1 = 0xBFFF#16 ∧ (translateSnapshot 0x2000#16 tEx).1 = 0xFFFE#16
      ∧ (translateSnapshot 0x0000#16 tEx).1 = 0xFFFF#16 ∧ (translateSnapshot 0xFFF0#16 tEx).1 = 0x0306#16
      ∧ (translateSnapshot 0x000F#16 tEx).1 = 0xFFFF#16 ∧ (translateSnapshot 0xFFFF#16 tEx).1 = 0x0306#16
      ∧ (translateSnapshot 0xFFF0#16 []).1 = 0xFFFF#16 := by decide

/-- V-TR-20: a shared source; V-TR-21: the reversed table. -/
theorem test_translate_shared_and_reversed :
    (translateSnapshot 0x0080#16 [⟨7, 13, some 5⟩, ⟨7, 14, none⟩]).1 = 0x9FFF#16
      ∧ (translateSnapshot 0x0080#16 [⟨7, 13, some 5⟩, ⟨7, 14, none⟩]).2[5] = 0x00#8
      ∧ translateSnapshot 0x0980#16 tEx.reverse = (0xDFCF#16, analogEx) := by decide

/-- V-MS-1, 3, 4, 5, 6, 7, 8, 9, 10, 11, 13, 15, 16, 17, 18 on the normalised snapshot. -/
theorem test_select_table :
    [0x0000#16, 0x1800#16, 0x0800#16, 0x0080#16, 0x8000#16, 0x0040#16, 0x4000#16, 0x0020#16, 0x0010#16, 0x3000#16,
      0x4020#16, 0x0400#16, 0xFFF0#16, 0x000F#16, 0x2400#16].map selectTable
      = [1#3, 1#3, 1#3, 3#3, 4#3, 5#3, 6#3, 7#3, 1#3, 1#3, 6#3, 1#3, 1#3, 1#3, 2#3] := by decide

/-- V-N-1 to V-N-4. -/
theorem test_normalize :
    normalizeRaw 0xFFFF#16 = 0x0000#16 ∧ normalizeRaw 0x7FFF#16 = 0x8000#16 ∧ normalizeRaw 0x000F#16 = 0xFFF0#16
      ∧ normalizeRaw 0x0000#16 = 0xFFFF#16 := by decide

/-- R88: HOLD of nothing, and of Up and Start (the raw word of V-MS-3). -/
theorem test_hold : hold [] = .snap 0xFFFF#16 ∧ hold [.up, .start] = .snap 0xE7FF#16 := by decide

/-- Program P1: what the host receives in the session. -/
theorem test_wire_of_base_poll : wires sDeselected pollBase = [0xFF#8, 0x41#8, 0x5A#8, 0xCF#8, 0xDF#8] := by decide

/-- Program P5's session, with its publish inside: one observation (R212). -/
theorem test_observe_session :
    observe sDeselected [.select, .rx 0x01#8, .rx 0x42#8, .snap 0xEFFF#16, .deselect, .rx 0x01#8]
      = [[.byte 0x01#8 (some ⟨0x41#8, true⟩), .byte 0x42#8 (some ⟨0x5A#8, true⟩), .publish 0xEFFF#16]] := by decide

/-- Program P3, with SELECT before mode selection: the mode-select snapshot is no publish (R104), and the two sessions are
apart. -/
theorem test_observe_modesel_and_two_sessions :
    observe sPowerOn [.select, .rx 0x01#8, .snap 0xFFFF#16, .deselect, .snap 0xFFFF#16, .select, .rx 0x81#8]
      = [[.byte 0x01#8 none], [.byte 0x81#8 (some ⟨0xFF#8, false⟩)]] := by decide

/-- R200 in a run of events: a POR while the host selects leaves the core selected, so after mode selection it answers. -/
theorem test_observe_por_while_selected :
    observe sPowerOn [.select, .por, .snap 0xFFFF#16, .rx 0x01#8] = [[.byte 0x01#8 (some ⟨0x41#8, true⟩)]] := by decide

/-! ## Witnesses: each shows a concrete state and operands that meet the hypotheses of the statement it is named after,
clause by clause, at the ends of a range where there is one. -/

/-- A selected core that meets the counter table meets the invariant. -/
theorem inv_sAt {st : SeqState} {sr : BitVec 3} {ab : BitVec 4} {ext : Bool}
    (hc : (sAt st sr ab ext).CountersFit) : (sAt st sr ab ext).Inv where
  counters := hc
  deselected := by intro h; cases h
  unconfigured := by intro h; cases h
  idleHeld := by
    intro h
    have h' : st = .idle := h
    subst h'
    exact ⟨rfl, hc.1, hc.2, rfl, rfl⟩
  tselLegal := (by decide : (1#3 : BitVec 3) ≠ 0#3)
  analogRange := (by decide : ∀ c (h : c < 12), analogEx[c] = abPressed ∨ analogEx[c] = abReleased)
  romWf := test_wf_fixture_passes

theorem inv_idle (ext : Bool) : (sAt .idle 4#3 0#4 ext).Inv := inv_sAt ⟨rfl, rfl⟩

theorem inv_done_base : (sAt .done 4#3 0#4 false).Inv := inv_sAt ⟨rfl, rfl⟩

theorem inv_done_extended : (sAt .done 0#3 12#4 true).Inv := inv_sAt ⟨rfl, rfl⟩

theorem inv_sticks_first_and_last : (sAt .sticks 4#3 0#4 true).Inv ∧ (sAt .sticks 1#3 0#4 true).Inv :=
  ⟨inv_sAt (by refine ⟨?_, ?_, ?_, ?_⟩ <;> decide), inv_sAt (by refine ⟨?_, ?_, ?_, ?_⟩ <;> decide)⟩

theorem inv_analog_first_and_last : (sAt .analog 0#3 0#4 true).Inv ∧ (sAt .analog 0#3 11#4 true).Inv :=
  ⟨inv_sAt (by refine ⟨?_, ?_, ?_⟩ <;> decide), inv_sAt (by refine ⟨?_, ?_, ?_⟩ <;> decide)⟩

theorem inv_deselected : sDeselected.Inv where
  counters := ⟨rfl, rfl⟩
  deselected := fun _ => ⟨rfl, rfl, rfl, rfl, rfl⟩
  unconfigured := by intro h; cases h
  idleHeld := fun _ => ⟨rfl, rfl, rfl, rfl, rfl⟩
  tselLegal := (by decide : (1#3 : BitVec 3) ≠ 0#3)
  analogRange := (by decide : ∀ c (h : c < 12), analogEx[c] = abPressed ∨ analogEx[c] = abReleased)
  romWf := test_wf_fixture_passes

theorem inv_power_on : sPowerOn.Inv where
  counters := ⟨rfl, rfl⟩
  deselected := fun _ => ⟨rfl, rfl, rfl, rfl, rfl⟩
  unconfigured := fun _ => ⟨rfl, rfl, rfl, rfl, rfl⟩
  idleHeld := fun _ => ⟨rfl, rfl, rfl, rfl, rfl⟩
  tselLegal := (by decide : (1#3 : BitVec 3) ≠ 0#3)
  analogRange := (by decide : ∀ c (h : c < 12),
    (Vector.replicate 12 abPressed : AnalogArray)[c] = abPressed ∨ (Vector.replicate 12 abPressed : AnalogArray)[c] = abReleased)
  romWf := test_wf_fixture_passes

/-- A core selected before mode selection. -/
def sEarly : State := { sPowerOn with att := true, attnPin := true }

theorem inv_early : sEarly.Inv :=
  { counters := inv_power_on.counters, deselected := fun _ => ⟨rfl, rfl, rfl, rfl, rfl⟩
    unconfigured := inv_power_on.unconfigured, idleHeld := inv_power_on.idleHeld
    tselLegal := inv_power_on.tselLegal, analogRange := inv_power_on.analogRange, romWf := inv_power_on.romWf }

/-- A core with one byte pending. -/
def sPending (b : Byte) : State := { sAt .idle 4#3 0#4 false with input := [Instant.ofEvent (.rx b)] }

theorem inv_pending (b : Byte) : (sPending b).Inv :=
  { counters := (inv_idle false).counters, deselected := (inv_idle false).deselected
    unconfigured := (inv_idle false).unconfigured, idleHeld := (inv_idle false).idleHeld
    tselLegal := (inv_idle false).tselLegal, analogRange := (inv_idle false).analogRange
    romWf := (inv_idle false).romWf }

theorem witness_PowerOnResetRegisters : ∃ t, exec .por (sAt .analog 0#3 7#4 true) = .next t := ⟨_, rfl⟩

theorem witness_StepKeepsInvariant :
    (sPending 0x01#8).Inv ∧ ∃ t, step (sPending 0x01#8) = .next t ∧ t.st = .ready :=
  ⟨inv_pending _, _, rfl, rfl⟩

theorem witness_NoFaultAndOnlyConfigurationRefuses :
    romEx.wf = true ∧ Rom.wf (romEx.set 0 [⟨2, 0, none⟩]) = false ∧ Rom.wf (romEx.set 6 [⟨4, 16, none⟩]) = false := by decide

theorem witness_RxDisabledChangesNothing :
    (sPowerOn.Inv ∧ sPowerOn.cfgDone = false) ∧ (sDeselected.Inv ∧ sDeselected.att = false)
      ∧ (sEarly.Inv ∧ sEarly.cfgDone = false ∧ sEarly.att = true) :=
  ⟨⟨inv_power_on, rfl⟩, ⟨inv_deselected, rfl⟩, ⟨inv_early, rfl, rfl⟩⟩

/-- RX_IDLE_START, RX_IDLE_OTHER. -/
theorem witness_RxIdle (ext : Bool) :
    (sAt .idle 4#3 0#4 ext).rxEnabled = true ∧ (sAt .idle 4#3 0#4 ext).st = .idle
      ∧ startCmd = 0x01#8 ∧ (0x00#8 : Byte) ≠ 0x01#8 ∧ (0x02#8 : Byte) ≠ 0x01#8 := ⟨rfl, rfl, rfl, by decide, by decide⟩

/-- RX_READY_READ, RX_READY_OTHER. -/
theorem witness_RxReady (ext : Bool) :
    (sAt .ready 4#3 0#4 ext).rxEnabled = true ∧ (sAt .ready 4#3 0#4 ext).st = .ready
      ∧ readCmd = 0x42#8 ∧ (0x41#8 : Byte) ≠ 0x42#8 ∧ (0x43#8 : Byte) ≠ 0x42#8 := ⟨rfl, rfl, rfl, by decide, by decide⟩

/-- RX_SEND_LO, RX_SEND_HI. -/
theorem witness_RxSend (ext : Bool) :
    ((sAt .sendLo 4#3 0#4 ext).rxEnabled = true ∧ (sAt .sendLo 4#3 0#4 ext).st = .sendLo)
      ∧ ((sAt .sendHi 4#3 0#4 ext).rxEnabled = true ∧ (sAt .sendHi 4#3 0#4 ext).st = .sendHi) :=
  ⟨⟨rfl, rfl⟩, ⟨rfl, rfl⟩⟩

theorem witness_RxStickSendsNeutralAndCountsDown :
    ((sAt .sticks 4#3 0#4 true).Inv ∧ (sAt .sticks 4#3 0#4 true).rxEnabled = true
        ∧ (sAt .sticks 4#3 0#4 true).st = .sticks)
      ∧ ((sAt .sticks 1#3 0#4 true).Inv ∧ (sAt .sticks 1#3 0#4 true).rxEnabled = true
        ∧ (sAt .sticks 1#3 0#4 true).st = .sticks) :=
  ⟨⟨inv_sticks_first_and_last.1, rfl, rfl⟩, ⟨inv_sticks_first_and_last.2, rfl, rfl⟩⟩

theorem witness_RxAnalogSendsChannelAndCountsUp :
    ((sAt .analog 0#3 0#4 true).Inv ∧ (sAt .analog 0#3 0#4 true).rxEnabled = true
        ∧ (sAt .analog 0#3 0#4 true).st = .analog ∧ (sAt .analog 0#3 0#4 true).abSent.toNat < 12)
      ∧ ((sAt .analog 0#3 11#4 true).Inv ∧ (sAt .analog 0#3 11#4 true).rxEnabled = true
        ∧ (sAt .analog 0#3 11#4 true).st = .analog ∧ (sAt .analog 0#3 11#4 true).abSent.toNat < 12) :=
  ⟨⟨inv_analog_first_and_last.1, rfl, rfl, by decide⟩, ⟨inv_analog_first_and_last.2, rfl, rfl, by decide⟩⟩

theorem witness_RxDoneAndPassiveStaySilent :
    ((sAt .done 4#3 0#4 false).rxEnabled = true ∧ (sAt .done 4#3 0#4 false).st = .done)
      ∧ ((sAt .passive 4#3 0#4 false).rxEnabled = true ∧ (sAt .passive 4#3 0#4 false).st = .passive) :=
  ⟨⟨rfl, rfl⟩, ⟨rfl, rfl⟩⟩

theorem witness_SelectSetsAttention : (sAt .idle 4#3 0#4 false).att = true := rfl

theorem witness_DeselectResetsSession :
    (∃ t, exec .deselect (sAt .analog 0#3 7#4 true) = .next t) ∧ sDeselected.Inv ∧ sDeselected.att = false :=
  ⟨⟨_, rfl⟩, inv_deselected, rfl⟩

/-- The ends of TSEL's range, and a configured core. -/
theorem witness_PublishInstallsTranslation :
    1 ≤ (sAt .idle 4#3 0#4 false).tsel.toNat ∧ 1 ≤ (State.tsel { sDeselected with tsel := 7#3 }).toNat
      ∧ sDeselected.cfgDone = true := ⟨by decide, by decide, rfl⟩

theorem witness_ModeselConfigures : sPowerOn.cfgDone = false := rfl

theorem witness_ConfigDoneIsOneShot :
    (∃ t, exec (.snapModesel 0xDFFF#16) sPowerOn = .next t)
      ∧ (∃ t, exec .por sDeselected = .next t ∧ sDeselected.cfgDone = true ∧ t.cfgDone = false)
      ∧ (sDeselected.cfgDone = true ∧ Event.por ∉ [Event.snap 0x7FFF#16, .select, .rx 0x01#8]
        ∧ ∃ u, runEvents sDeselected [.snap 0x7FFF#16, .select, .rx 0x01#8] = some u) :=
  ⟨⟨_, rfl⟩, ⟨_, rfl, rfl, rfl⟩, rfl, by decide, _, rfl⟩

theorem witness_ConfigurationFixedUntilPowerOff :
    sDeselected.cfgDone = true ∧ (∃ t, deliver (.snap 0xF7FF#16) sDeselected = .next t)
      ∧ Event.por ∉ [Event.snap 0xF7FF#16, .deselect] := ⟨rfl, ⟨_, rfl⟩, by decide⟩

/-- A poll between mode selection and the first publish. -/
theorem witness_WindowBeforeFirstPublish : snapshots pollBase = [] ∧ Event.por ∉ pollBase := by decide

theorem witness_StepRunsDecodedInstruction :
    (∃ t, (sPending 0x42#8).elapse.takeEvent = (t, some (.rx 0x42#8)))
      ∧ (sPending 0x42#8).input = Instant.ofEvent (.rx 0x42#8) :: [] ∧ sDeselected.input = [] :=
  ⟨⟨_, rfl⟩, rfl, rfl⟩

theorem witness_DecodeEncodeAgree :
    [Instr.rxDisabled 0x7FF#11, .rxIdleStart, .rxIdleOther 0x00#8, .rxReadyRead, .rxReadyOther 0xFF#8, .rxSendLo 0x01#8,
      .rxSendHi 0x42#8, .rxStick 0x00#8, .rxAnalog 0xFF#8, .rxDone 0x01#8, .rxPassive 0x01#8, .por, .snapModesel 0xFFFF#16,
      .snapPublish 0x0000#16, .select, .deselect].all Instr.wf = true := by decide

/-- Both kinds of table word, at the ends of their ranges. -/
theorem witness_TableWordRunsAtFetch :
    decodeTableWord 16 0 = some (.rxIdleOther 0x00#8) ∧ decodeTableWord 11 2047 = some (.rxPassive 0xFF#8)
      ∧ decodeTableWord 16 2048 = some (.snapModesel 0x0800#16)
      ∧ decodeTableWord 16 65535 = some (.snapModesel 0xFFFF#16) := by decide

theorem witness_RomSlotsHoldTheTables :
    romEx.wf = true ∧ (⟨15, 14, some 6⟩ : Entry) ∈ romEx[0] ∧ (⟨4, 11, some 9⟩ : Entry) ∈ romEx[6]
      ∧ (111 : Nat) < 112 ∧ 112 ≤ (112 : Nat) := by decide

theorem witness_NormalizeComplements :
    (15 : Nat) < 16 ∧ (0xF67F#16 : Snapshot).extractLsb' 0 4 = 0xF#4 := by decide

/-- Both outcomes of a destination and of a channel, at the ends of their ranges. -/
theorem witness_TranslateClosedForm :
    (∃ e ∈ tEx, e.dst = 0 ∧ pressed 0x2000#16 e.src = true) ∧ (∃ e ∈ tEx, e.dst = 15 ∧ pressed 0x4000#16 e.src = true)
      ∧ (∃ e ∈ tEx, e.ach = some 0 ∧ pressed 0x0100#16 e.src = true)
      ∧ ¬ ∃ e ∈ tEx, e.ach = some 11 ∧ pressed 0xFFFF#16 e.src = true := by decide

theorem witness_TranslateIgnoresEntryOrder : tEx.Perm tEx.reverse ∧ tEx ≠ tEx.reverse :=
  ⟨(List.reverse_perm tEx).symm, by decide⟩

/-- One button held, then two. -/
theorem witness_TranslateIsMonotone :
    (∀ i, pressed 0x8000#16 i = true → pressed 0xC000#16 i = true)
      ∧ (translateSnapshot 0x8000#16 tEx).1.getLsbD 14 = false
      ∧ (translateSnapshot 0x8000#16 tEx).2[6] = 0x00#8 := by
  refine ⟨fun i h => ?_, by decide, by decide⟩
  have hi : i < 16 := BitVec.lt_of_getLsbD h
  have hall : ∀ j, j < 16 → pressed 0x8000#16 j = true → pressed 0xC000#16 j = true := by decide
  exact hall i hi h

theorem witness_ReservedSnapshotBitsAreIgnored :
    Table.wf tEx = true ∧ (0x8000#16 : Snapshot) >>> 4 = 0x800F#16 >>> 4 ∧ sDeselected.Inv
      ∧ (0x7FFF#16 : Snapshot) >>> 4 = 0x7FF0#16 >>> 4 :=
  ⟨by decide, by decide, inv_deselected, by decide⟩

/-- A mapped entry with a channel, and one without. -/
theorem witness_SingleButtonLaw :
    Table.wf tEx = true
      ∧ ((⟨15, 14, some 6⟩ : Entry) ∈ tEx ∧ ∀ e ∈ tEx, e.src = 15 → e = ⟨15, 14, some 6⟩)
      ∧ ((⟨13, 0, none⟩ : Entry) ∈ tEx ∧ ∀ e ∈ tEx, e.src = 13 → e = ⟨13, 0, none⟩) := by decide

theorem witness_OnlyCandidateButtonsSelectTables :
    (0x2400#16 : Snapshot) &&& 0xF0E0#16 = 0x281F#16 &&& 0xF0E0#16
      ∧ ∀ p ∈ [(Button.l, 7#3), (.start, 2#3)], p.1 ∈ [Button.start, .select, .a, .b, .x, .y, .l] := by decide

theorem witness_ModeselIsTotal :
    (∃ t, exec (.snapPublish 0xDFFF#16) sDeselected = .next t)
      ∧ (∀ raw, Instr.snapPublish 0xDFFF#16 ≠ .snapModesel raw) ∧ Instr.snapPublish 0xDFFF#16 ≠ .por :=
  ⟨⟨_, rfl⟩, fun _ => by simp, by decide⟩

/-- Each register changes under an event that may write it. -/
theorem witness_RegistersWrittenOnlyByTheirEvents :
    (∃ t, exec (.snapPublish 0x7FFF#16) sDeselected = .next t ∧ t.btnmask ≠ sDeselected.btnmask
        ∧ t.analog ≠ sDeselected.analog)
      ∧ (∃ t, exec (.snapModesel 0xD7FF#16) sPowerOn = .next t ∧ t.tsel ≠ sPowerOn.tsel ∧ t.ext ≠ sPowerOn.ext
        ∧ t.cfgDone ≠ sPowerOn.cfgDone)
      ∧ (∃ t, exec .select sDeselected = .next t ∧ t.att ≠ sDeselected.att)
      ∧ (∃ t, exec (.rxStick 0x00#8) (sAt .sticks 4#3 0#4 true) = .next t
        ∧ t.stickRem ≠ (sAt .sticks 4#3 0#4 true).stickRem)
      ∧ (∃ t, exec (.rxAnalog 0x00#8) (sAt .analog 0#3 0#4 true) = .next t
        ∧ t.abSent ≠ (sAt .analog 0#3 0#4 true).abSent) := by
  refine ⟨⟨_, rfl, ?_, ?_⟩, ⟨_, rfl, ?_, ?_, ?_⟩, ⟨_, rfl, ?_⟩, ⟨_, rfl, ?_⟩, ⟨_, rfl, ?_⟩⟩ <;> decide

/-- One instant for each clause. -/
theorem witness_CoincidentEventsFollowPriorities :
    (∃ s : State, ∃ i : Instant, s.input = [i] ∧ i.por = true ∧ i.rx = some 0x01#8)
      ∧ (∃ s : State, s.input = [⟨false, some false, some 0x01#8, none⟩])
      ∧ (∃ s : State, s.input = [⟨false, some false, some 0x01#8, some 0x7FFF#16⟩])
      ∧ (∃ s : State, s.input = [⟨false, none, some 0x01#8, some 0x7FFF#16⟩])
      ∧ (∃ s : State, s.input = [⟨false, some true, some 0x01#8, none⟩])
      ∧ (∃ s : State, s.input = [⟨false, some true, some 0x01#8, some 0x7FFF#16⟩]) :=
  ⟨⟨{ sDeselected with input := [⟨true, none, some 0x01#8, none⟩] }, _, rfl, rfl, rfl⟩,
    ⟨{ sDeselected with input := _ }, rfl⟩, ⟨{ sDeselected with input := _ }, rfl⟩,
    ⟨{ sDeselected with input := _ }, rfl⟩, ⟨{ sDeselected with input := _ }, rfl⟩,
    ⟨{ sDeselected with input := _ }, rfl⟩⟩

/-- An emit with acknowledge, and one without. -/
theorem witness_AcknowledgingInstructions :
    after (exec .rxIdleStart (sAt .idle 4#3 0#4 false)) State.emit = some (some ⟨0x41#8, true⟩)
      ∧ after (exec (.rxDone 0x00#8) (sAt .done 4#3 0#4 false)) State.emit = some (some ⟨0xFF#8, false⟩) := by decide

/-- A step after which the one-shot is in its delay, from a state in which it was idle; and a silent emit. -/
theorem witness_AcknowledgePulseOnlyAfterAcknowledge :
    (∃ t, step (sPending 0x01#8) = .next t ∧ t.ack = .delay ∧ (sPending 0x01#8).ack = .idle
        ∧ t.emit = some ⟨0x41#8, true⟩)
      ∧ ∃ t, step (sPending 0x42#8) = .next t ∧ t.emit = some ⟨0xFF#8, false⟩ :=
  ⟨⟨_, rfl, rfl, rfl, rfl⟩, ⟨_, rfl, rfl⟩⟩

theorem witness_CounterLaws :
    (sAt .sticks 1#3 0#4 true).Inv ∧ (∃ t, deliver (.rx 0x00#8) (sAt .sticks 1#3 0#4 true) = .next t)
      ∧ (sAt .analog 0#3 11#4 true).Inv ∧ (∃ t, deliver (.rx 0x00#8) (sAt .analog 0#3 11#4 true) = .next t)
      ∧ ∃ t, deliver .deselect (sAt .analog 0#3 11#4 true) = .next t :=
  ⟨inv_sticks_first_and_last.2, ⟨_, rfl⟩, inv_analog_first_and_last.2, ⟨_, rfl⟩, ⟨_, rfl⟩⟩

theorem witness_DontCareBytesDoNotMatter :
    ((sAt .sendLo 4#3 0#4 false).rxEnabled = true ∧ (sAt .sendLo 4#3 0#4 false).st ≠ .idle
        ∧ (sAt .sendLo 4#3 0#4 false).st ≠ .ready)
      ∧ ((sAt .done 4#3 0#4 false).rxEnabled = true ∧ (sAt .done 4#3 0#4 false).st = .done)
      ∧ ((sAt .passive 4#3 0#4 false).rxEnabled = true ∧ (sAt .passive 4#3 0#4 false).st = .passive) :=
  ⟨⟨rfl, by decide, by decide⟩, ⟨rfl, rfl⟩, ⟨rfl, rfl⟩⟩

theorem witness_SilentStatesHoldUntilDeselect :
    (sAt .done 4#3 0#4 false).st = .done ∧ (sAt .passive 4#3 0#4 false).st = .passive
      ∧ Event.deselect ∉ [Event.rx 0x01#8, .snap 0x7FFF#16, .select]
      ∧ Event.por ∉ [Event.rx 0x01#8, .snap 0x7FFF#16, .select] := ⟨rfl, rfl, by decide, by decide⟩

theorem witness_SessionHeldWhileDeselected :
    Event.select ∉ [Event.rx 0x01#8, .snap 0x7FFF#16, .deselect]
      ∧ Event.por ∉ [Event.rx 0x01#8, .snap 0x7FFF#16, .deselect] := by decide

/-- Two cores that differ in the whole session group. -/
theorem witness_DeselectForgetsTheSession :
    (sAt .analog 0#3 7#4 true).btnmask = (sAt .idle 4#3 0#4 true).btnmask
      ∧ (sAt .analog 0#3 7#4 true).analog = (sAt .idle 4#3 0#4 true).analog
      ∧ (sAt .analog 0#3 7#4 true).tsel = (sAt .idle 4#3 0#4 true).tsel
      ∧ (sAt .analog 0#3 7#4 true).ext = (sAt .idle 4#3 0#4 true).ext
      ∧ (sAt .analog 0#3 7#4 true).cfgDone = (sAt .idle 4#3 0#4 true).cfgDone
      ∧ (sAt .analog 0#3 7#4 true).tables = (sAt .idle 4#3 0#4 true).tables := ⟨rfl, rfl, rfl, rfl, rfl, rfl⟩

/-- A whole base poll with a publish in it, on a configured core; a core before mode selection. -/
theorem witness_SessionIsWhatLiesBetweenSelectAndDeselect :
    Event.deselect ∉ [Event.rx 0x01#8, .snap 0xEFFF#16, .rx 0x42#8] ∧ sDeselected.cfgDone = true
      ∧ Event.por ∉ [Event.rx 0x01#8, .snap 0xEFFF#16, .rx 0x42#8] ∧ sPowerOn.cfgDone = false := by decide

/-- The ends of each phase of the frame, and the end of the frame. -/
theorem witness_AcceptedByteTakesTheNextFramePosition :
    ((sAt .idle 4#3 0#4 false).Inv ∧ (sAt .idle 4#3 0#4 false).framePos = some 0 ∧ admitsByte 0 0x01#8)
      ∧ ((sAt .sticks 1#3 0#4 true).Inv ∧ (sAt .sticks 1#3 0#4 true).framePos = some 7 ∧ admitsByte 7 0x00#8)
      ∧ ((sAt .analog 0#3 11#4 true).Inv ∧ (sAt .analog 0#3 11#4 true).framePos = some 19 ∧ admitsByte 19 0x00#8
        ∧ 19 < (sAt .analog 0#3 11#4 true).lenFrame)
      ∧ ((sAt .done 4#3 0#4 false).Inv ∧ (sAt .done 4#3 0#4 false).framePos = some 4
        ∧ (sAt .done 4#3 0#4 false).lenFrame ≤ 4)
      ∧ ((sAt .done 0#3 12#4 true).Inv ∧ (sAt .done 0#3 12#4 true).framePos = some 20
        ∧ (sAt .done 0#3 12#4 true).lenFrame ≤ 20) :=
  ⟨⟨inv_idle _, rfl, fun _ => rfl, fun h => by cases h⟩,
    ⟨inv_sticks_first_and_last.2, rfl, fun h => (by cases h), fun h => (by cases h)⟩,
    ⟨inv_analog_first_and_last.2, rfl, ⟨fun h => (by cases h), fun h => (by cases h)⟩, by decide⟩,
    ⟨inv_done_base, rfl, by decide⟩, ⟨inv_done_extended, rfl, by decide⟩⟩

/-- A session with a publish between its two button bytes (program P5). -/
theorem witness_SessionEmitsTheFrame :
    (sAt .idle 4#3 0#4 false).Inv ∧ (sAt .idle 4#3 0#4 false).rxEnabled = true ∧ (sAt .idle 4#3 0#4 false).st = .idle
      ∧ insideSession [.rx 0x01#8, .rx 0x42#8, .rx 0x00#8, .snap 0xEFFF#16, .rx 0x00#8]
      ∧ hostBytes [.rx 0x01#8, .rx 0x42#8, .rx 0x00#8, .snap 0xEFFF#16, .rx 0x00#8]
        = 0x01#8 :: 0x42#8 :: [0x00#8, 0x00#8] := by
  refine ⟨inv_idle _, rfl, rfl, ?_, rfl⟩
  intro e he
  simp only [List.mem_cons, List.not_mem_nil, or_false] at he
  obtain rfl | rfl | rfl | rfl | rfl := he
  · exact .inl ⟨_, rfl⟩
  · exact .inl ⟨_, rfl⟩
  · exact .inl ⟨_, rfl⟩
  · exact .inr ⟨_, rfl⟩
  · exact .inl ⟨_, rfl⟩

/-- Both identities; also the premises of AcknowledgeCountOfASession and WireLagsOneExchange. -/
theorem witness_FrameLaw :
    ((sAt .idle 4#3 0#4 false).Inv ∧ (sAt .idle 4#3 0#4 false).rxEnabled = true ∧ (sAt .idle 4#3 0#4 false).st = .idle
        ∧ (sAt .idle 4#3 0#4 false).ext = false)
      ∧ ((sAt .idle 4#3 0#4 true).Inv ∧ (sAt .idle 4#3 0#4 true).rxEnabled = true ∧ (sAt .idle 4#3 0#4 true).st = .idle
        ∧ (sAt .idle 4#3 0#4 true).ext = true)
      ∧ (List.replicate 16 (0x00#8 : Byte)).length = 16 :=
  ⟨⟨inv_idle _, rfl, rfl, rfl⟩, ⟨inv_idle _, rfl, rfl, rfl⟩, rfl⟩

/-- The host clocks 5 bytes, or 21 (R210). -/
theorem witness_WholeFrameOnTheWire :
    (sAt .idle 4#3 0#4 false).Inv ∧ (List.replicate 3 (0x00#8 : Byte)).length + 1 = (sAt .idle 4#3 0#4 false).lenFrame
      ∧ (sAt .idle 4#3 0#4 true).Inv
      ∧ (List.replicate 19 (0x00#8 : Byte)).length + 1 = (sAt .idle 4#3 0#4 true).lenFrame :=
  ⟨inv_idle _, rfl, inv_idle _, rfl⟩

theorem witness_StepsFollowTheEventScript :
    State.input { sDeselected with input := scriptInput (boot [.up] ++ pollBase) }
      = (boot [.up] ++ pollBase).map Instant.ofEvent := rfl

end Sys2Proof.Tests
end

section
/-! PROOFS. The family `30_encoding.md`. -/

namespace Sys2Proof.Machine

/-- Outside IDLE and READY a state has only a catch-all row in R73, and the meaning of that row takes the byte without
using it (R83). -/
theorem exec_decodeByte_eq_of_not_idle_ready {st : SeqState} (hidle : st ≠ .idle) (hready : st ≠ .ready)
    (b b' : Byte) (s : State) : exec (decodeByte st b) s = exec (decodeByte st b') s := by
  cases st with
  | idle => exact absurd rfl hidle
  | ready => exact absurd rfl hready
  | sendLo | sendHi | sticks | analog | done | passive => rfl

/-- In the two terminal states an accepted byte is answered by NEUTRAL without acknowledge, and `ST` stays (R150, R151). -/
theorem deliver_rx_of_done_or_passive {s : State} (b : Byte) (h : s.rxEnabled = true)
    (hst : s.st = .done ∨ s.st = .passive) : deliver (.rx b) s = .next (s.accept params.neutral false) := by
  rw [deliver_rx_enabled b h]
  obtain hs | hs := hst <;> rw [hs] <;> rfl

/-- Settles O48: the byte enters the next state only through the decoder's exact rows, which IDLE and READY have. -/
theorem dontCareBytesDoNotMatter : Obligations.DontCareBytesDoNotMatter := by
  intro s b b' h hidle hready
  constructor
  · rw [deliver_rx_enabled b h, deliver_rx_enabled b' h]
    exact exec_decodeByte_eq_of_not_idle_ready hidle hready b b' s
  · intro hst
    exact ⟨_, deliver_rx_of_done_or_passive b h hst, State.accept_emit s params.neutral false⟩

end Sys2Proof.Machine
end

section
/-! PROOFS. The family `40_mapping.md`. -/

namespace Sys2Proof.Machine

/-- NORMALIZE flips each of the 16 bits (R100). -/
theorem pressed_normalizeRaw (raw : Snapshot) {i : Nat} (hi : i < 16) :
    pressed (normalizeRaw raw) i = !raw.getLsbD i := by
  simp [pressed, normalizeRaw, hi]

/-- Settles O32: NORMALIZE is a bitwise complement, so the reserved field of ones turns into a field of zeros. -/
theorem normalizeComplements : Obligations.NormalizeComplements := by
  refine ⟨fun raw i hi => pressed_normalizeRaw raw hi, by decide, fun raw hreserved => ?_, by decide⟩
  rw [normalizeRaw, BitVec.extractLsb'_not_of_lt (by decide), hreserved]
  decide

/-- A mask bit of TRANSLATE is 0 exactly when a pressed entry has that destination (R101). -/
theorem translateSnapshot_mask_eq_false_iff (S : Snapshot) (t : Table) {d : Nat} (hd : d < 16) :
    (translateSnapshot S t).1.getLsbD d = false ↔ ∃ e ∈ t, e.dst = d ∧ pressed S e.src = true := by
  rw [translateSnapshot_mask S t d hd, Bool.not_eq_false', List.any_eq_true]
  simp only [Bool.and_eq_true, decide_eq_true_eq]

/-- `translateSnapshot_channel` with its test read as a proposition: a channel is one of two bytes, and pressed entries
choose which (R101). -/
theorem translateSnapshot_channel_eq_ite (S : Snapshot) (t : Table) {c : Nat} (hc : c < 12)
    [Decidable (∃ e ∈ t, e.ach = some c ∧ pressed S e.src = true)] :
    (translateSnapshot S t).2[c]
      = if ∃ e ∈ t, e.ach = some c ∧ pressed S e.src = true then abPressed else abReleased := by
  rw [translateSnapshot_channel S t c hc]
  simp only [List.any_eq_true, Bool.and_eq_true, decide_eq_true_eq]

/-- Settles O33: the loop's result by mask bit and by channel; the two channel bytes differ, so 0x00 tells them apart. -/
theorem translateClosedForm : Obligations.TranslateClosedForm := by
  refine ⟨fun S t d hd => translateSnapshot_mask_eq_false_iff S t hd, fun S t c hc => ?_, fun _ => rfl⟩
  have hne : abPressed ≠ abReleased := by decide
  rw [translateSnapshot_channel_eq_ite S t hc]
  exact ⟨hne.ite_eq_left_iff, fun h => if_neg h⟩

end Sys2Proof.Machine
end

section
/-! PROOFS. The family `41_mode_select.md`. -/

namespace Sys2Proof.Machine

/-! ### SELECT_TABLE -/

/-- SELECT_TABLE reads a snapshot only at the listed buttons (R121). -/
theorem selectTableBy_congr {priority : List (Button × BitVec 3)} {S S' : Snapshot}
    (h : ∀ p ∈ priority, pressed S p.1.bit = pressed S' p.1.bit) :
    selectTableBy priority S = selectTableBy priority S' := by
  rw [selectTableBy, selectTableBy, List.find?_congr h]

/-- SELECT_TABLE answers the default table or a listed one (R121). -/
theorem selectTableBy_mem (priority : List (Button × BitVec 3)) (S : Snapshot) :
    selectTableBy priority S ∈ defaultTable :: priority.map Prod.snd := by
  unfold selectTableBy
  split
  · next p hp => exact List.mem_cons_of_mem _ (List.mem_map_of_mem (List.mem_of_find?_eq_some hp))
  · exact List.mem_cons_self

/-- The reserved number 0 is neither the default table nor in `MODE_PRIORITY` (R27). -/
theorem selectTable_ne_zero (S : Snapshot) : selectTable S ≠ 0#3 := by
  have hlisted : ∀ n ∈ defaultTable :: params.modePriority.map Prod.snd, n ≠ 0#3 := by decide
  exact hlisted _ (selectTableBy_mem params.modePriority S)

/-- A complemented bit of the raw snapshot is that bit of the normalised one, and no other bit moves (R100). -/
theorem pressed_normalizeRaw_flip (raw : Snapshot) {i j : Nat} (hi : i < 16) :
    pressed (normalizeRaw (raw ^^^ (1#16 <<< j))) i = (pressed (normalizeRaw raw) i ^^ decide (i = j)) := by
  rw [pressed_normalizeRaw _ hi, pressed_normalizeRaw _ hi, ← BitVec.twoPow_eq, BitVec.getLsbD_xor,
    BitVec.getLsbD_twoPow]
  by_cases h : i = j
  · subst h; simp [hi]
  · simp [h, Ne.symm h]

/-- Up is no candidate button, so whether it is held does not choose the table (R122). -/
theorem selectTable_flip_up (raw : Snapshot) :
    selectTable (normalizeRaw (raw ^^^ (1#16 <<< 11))) = selectTable (normalizeRaw raw) := by
  have hcandidates : ∀ p ∈ params.modePriority, p.1.bit < 16 ∧ p.1.bit ≠ 11 := by decide
  refine selectTableBy_congr fun p hp => ?_
  obtain ⟨hlt, hne⟩ := hcandidates p hp
  rw [pressed_normalizeRaw_flip raw hlt, decide_eq_false hne, Bool.xor_false]

/-- `EXT` of a raw, active-low snapshot: Up is bit 11, held when 0 (R122). -/
theorem extFlag_normalizeRaw (raw : Snapshot) : extFlag (normalizeRaw raw) = !raw.getLsbD 11 :=
  pressed_normalizeRaw raw (by decide)

/-- Pressing or releasing Up changes the identity (R122). -/
theorem extFlag_flip_up (raw : Snapshot) :
    extFlag (normalizeRaw (raw ^^^ (1#16 <<< 11))) = !extFlag (normalizeRaw raw) := by
  have hup : Button.up.bit = 11 := rfl
  rw [extFlag, extFlag, pressed_normalizeRaw_flip raw (by decide), decide_eq_true hup, Bool.xor_true]

/-! ### The configuration group under the instructions and along runs -/

/-- What MODESEL writes to the configuration group (R121, R122, R124). -/
theorem exec_snapModesel_config {s t : State} {raw : Snapshot} (h : exec (.snapModesel raw) s = .next t) :
    t.tsel = selectTable (normalizeRaw raw) ∧ t.ext = extFlag (normalizeRaw raw) ∧ t.cfgDone = true := by
  cases h
  exact ⟨rfl, rfl, rfl⟩

/-- Only MODESEL and POR write the configuration group (R38). -/
theorem exec_keeps_config {i : Instr} {s t : State} (h : exec i s = .next t)
    (hmodesel : ∀ raw, i ≠ .snapModesel raw) (hpor : i ≠ .por) :
    t.tsel = s.tsel ∧ t.ext = s.ext ∧ t.cfgDone = s.cfgDone := by
  cases i with
  | snapModesel raw => exact absurd rfl (hmodesel raw)
  | por => exact absurd rfl hpor
  | _ => cases h; exact ⟨rfl, rfl, rfl⟩

/-- Only POR clears `CFG_DONE` (R124). -/
theorem exec_keeps_cfgDone {i : Instr} {s t : State} (h : exec i s = .next t) (hpor : i ≠ .por)
    (hs : s.cfgDone = true) : t.cfgDone = true := by
  by_cases hmodesel : ∃ raw, i = .snapModesel raw
  · obtain ⟨raw, rfl⟩ := hmodesel
    obtain ⟨-, -, hcfg⟩ := exec_snapModesel_config h
    exact hcfg
  · obtain ⟨-, -, hcfg⟩ := exec_keeps_config h (fun raw hi => hmodesel ⟨raw, hi⟩) hpor
    rw [hcfg, hs]

/-- No host byte decodes to POR (R73). -/
theorem decodeByte_ne_por (st : SeqState) (b : Byte) : decodeByte st b ≠ .por := by
  cases st with
  | idle | ready => rw [decodeByte]; split <;> simp
  | _ => simp [decodeByte]

/-- POR is decoded from the event POR alone (R86). -/
theorem eq_por_of_decode_sample {s : State} {e : Event} (h : decode (s.sample e) = .por) : e = .por := by
  cases e with
  | por => rfl
  | select | deselect => cases h
  | snap raw => cases hcfg : s.cfgDone <;> simp [State.sample, hcfg, decode] at h
  | rx b =>
    cases hrx : s.rxEnabled
    · simp [State.sample, hrx, decode] at h
    · simp [State.sample, hrx, decodeByte_ne_por] at h

/-- No event other than POR clears `CFG_DONE` (R124). -/
theorem deliver_keeps_cfgDone {s t : State} {e : Event} (hpor : e ≠ .por) (h : deliver e s = .next t)
    (hs : s.cfgDone = true) : t.cfgDone = true :=
  exec_keeps_cfgDone h (mt eq_por_of_decode_sample hpor) hs

/-- What every allowed event keeps, a run of allowed events keeps. -/
theorem runEvents_keeps {P : State → Prop} {allowed : Event → Prop}
    (hkeeps : ∀ {s t : State} {e : Event}, allowed e → deliver e s = .next t → P s → P t)
    {s u : State} {es : List Event} (hes : ∀ e ∈ es, allowed e) (hrun : runEvents s es = some u) (hs : P s) :
    P u := by
  induction es generalizing s with
  | nil => cases hrun; exact hs
  | cons e es ih =>
    obtain ⟨t, ht⟩ := deliver_next e s
    obtain ⟨he, hes⟩ := List.forall_mem_cons.mp hes
    rw [runEvents_cons ht] at hrun
    exact ih hes hrun (hkeeps he ht hs)

/-- Once `CFG_DONE` is 1, a snapshot is PUBLISH (R104). -/
theorem decode_sample_snap_of_cfgDone {s : State} (raw : Snapshot) (h : s.cfgDone = true) :
    decode (s.sample (.snap raw)) = .snapPublish raw := by
  simp [State.sample, h, decode]

/-! ### The statements -/

/-- Settles O22: `CFG_DONE` = 1 is kept by every event but POR, and it alone routes a snapshot to PUBLISH. -/
theorem configDoneIsOneShot : Obligations.ConfigDoneIsOneShot := by
  refine ⟨fun s t raw h => ?_, fun i s t h hs ht => ?_, fun s u es hs hpor hrun => ?_⟩
  · obtain ⟨-, -, hcfg⟩ := exec_snapModesel_config h
    exact ⟨hcfg, by rw [State.rxEnabled, hcfg, Bool.true_and]⟩
  · by_contra hpor
    simp [exec_keeps_cfgDone h hpor hs] at ht
  · have hu : u.cfgDone = true :=
      runEvents_keeps (allowed := (· ≠ .por)) deliver_keeps_cfgDone (fun _ he => ne_of_mem_of_not_mem he hpor)
        hrun hs
    exact ⟨hu, fun raw => decode_sample_snap_of_cfgDone raw hu⟩

/-- Settles O41: SELECT_TABLE never answers the reserved 0, and three bits hold no number above 7. -/
theorem modeselIsTotal : Obligations.ModeselIsTotal := by
  refine ⟨fun s raw => ?_, fun i s t h hmodesel hpor => ?_⟩
  · obtain ⟨t, ht⟩ := exec_next (.snapModesel raw) s
    obtain ⟨htsel, hext, -⟩ := exec_snapModesel_config ht
    have hne : t.tsel ≠ 0#3 := htsel ▸ selectTable_ne_zero _
    refine ⟨t, ht, by bv_omega, by bv_omega, ?_⟩
    rintro rfl
    rw [htsel, hext]
    decide
  · obtain ⟨htsel, hext, -⟩ := exec_keeps_config h hmodesel hpor
    exact ⟨htsel, hext⟩

/-- Settles O21: `EXT` is one bit of the snapshot, and SELECT_TABLE reads only the others. -/
theorem extendedIdentityIffUpHeldAtBoot : Obligations.ExtendedIdentityIffUpHeldAtBoot := by
  intro s raw
  obtain ⟨t, ht⟩ := exec_next (.snapModesel raw) s
  obtain ⟨t', ht'⟩ := exec_next (.snapModesel (raw ^^^ (1#16 <<< 11))) s
  obtain ⟨htsel, hext, -⟩ := exec_snapModesel_config ht
  obtain ⟨htsel', hext', -⟩ := exec_snapModesel_config ht'
  refine ⟨t, ht, ?_, t', ht', ?_, ?_⟩
  · rw [hext, extFlag_normalizeRaw, Bool.not_eq_true']
  · rw [htsel', htsel, selectTable_flip_up]
  · rw [hext', hext, extFlag_flip_up]

end Sys2Proof.Machine
end

section
/-! PROOFS. The family `60_exceptions.md`. -/

namespace Sys2Proof

/-! ### Which check a table or a ROM fails -/

/-- A table passes the six checks of R79 exactly when none of them is found failing. -/
theorem Table.failing_eq_none_iff (t : Table) : Table.failing t = none ↔ Table.wf t = true := by
  simp [Table.failing, Table.wf]

/-- The check that is named for a table is one the table fails. -/
theorem Table.holds_eq_false_of_failing {t : Table} {c : TableCheck} (h : Table.failing t = some c) :
    c.holds t = false := by
  simpa using List.find?_some h

/-- A ROM is well formed exactly when no table of it is found failing (R204 (1)). -/
theorem Rom.failing_eq_none_iff (rom : Rom) : Rom.failing rom = none ↔ Rom.wf rom = true := by
  have hwf : Rom.wf rom = (rom.toList.zipIdx 1).all (Table.wf ∘ Prod.fst) := by
    rw [← List.all_map, List.zipIdx_map_fst, Rom.wf]
  simp only [hwf, Rom.failing, List.findSome?_eq_none_iff, Option.map_eq_none_iff, Table.failing_eq_none_iff,
    List.all_eq_true, Function.comp_apply]

/-- The number that is named for a ROM counts its tables from 1, and the table of that number fails the named check. -/
theorem Rom.exists_failing_table {rom : Rom} {n : Nat} {c : TableCheck} (h : Rom.failing rom = some (n, c)) :
    ∃ (t : Nat) (ht : t < 7), n = t + 1 ∧ c.holds rom[t] = false := by
  obtain ⟨⟨table, k⟩, hmem, hfound⟩ := List.exists_of_findSome?_eq_some h
  obtain ⟨c', hfail, hpair⟩ := Option.map_eq_some_iff.mp hfound
  obtain ⟨rfl, rfl⟩ := Prod.mk.inj hpair
  obtain ⟨hle, hlt, htable⟩ := List.mem_zipIdx hmem
  rw [Vector.length_toList] at hlt
  rw [Vector.getElem_toList] at htable
  exact ⟨k - 1, by omega, (Nat.sub_add_cancel hle).symm, htable ▸ Table.holds_eq_false_of_failing hfail⟩

end Sys2Proof

namespace Sys2Proof.Machine

/-! ### Steps and configuration -/

/-- Every step answers a next state: the core waits, or delivers one event (R12, R180). -/
theorem step_next (s : State) : ∃ t, step s = .next t := by
  unfold step
  split
  · exact ⟨_, rfl⟩
  · exact deliver_next _ _

/-- A ROM in which no table fails is installed (R204 (1)). -/
theorem configure_of_failing_eq_none {rom : Rom} (h : rom.failing = none) :
    configure rom = .next { State.reset with tables := rom } := by
  rw [configure, h]

/-- A ROM in which a table fails a check is refused by the number and the name found (R79, R180). -/
theorem configure_of_failing_eq_some {rom : Rom} {n : Nat} {c : TableCheck} (h : rom.failing = some (n, c)) :
    configure rom = .refused (.illFormedTable n c) := by
  rw [configure, h]

/-- Settles O6: every meaning, and so every step, ends in `.next`; `configure` refuses where the search for a failing
check finds one, and what it finds fails. -/
theorem noFaultAndOnlyConfigurationRefuses : Obligations.NoFaultAndOnlyConfigurationRefuses := by
  refine ⟨exec_next, step_next,
    fun rom hwf => configure_of_failing_eq_none (rom.failing_eq_none_iff.mpr hwf), fun rom hwf => ?_⟩
  cases hfail : rom.failing with
  | none => simp [rom.failing_eq_none_iff.mp hfail] at hwf
  | some found =>
    obtain ⟨n, c⟩ := found
    obtain ⟨t, ht, rfl, hc⟩ := Rom.exists_failing_table hfail
    exact ⟨t, c, ht, configure_of_failing_eq_some hfail, hc⟩

end Sys2Proof.Machine
end

section
/-! PROOFS. The family `70_reset_and_hazards.md`. -/

namespace Sys2Proof.Machine

/-! ### The configuration that mode selection leaves -/

/-- Two states agree on the configuration group of R38 and on the table ROM of R33. -/
structure State.SameConfig (s t : State) : Prop where
  tsel : t.tsel = s.tsel
  ext : t.ext = s.ext
  cfgDone : t.cfgDone = s.cfgDone
  tables : t.tables = s.tables

theorem State.SameConfig.refl (s : State) : s.SameConfig s := ⟨rfl, rfl, rfl, rfl⟩

theorem State.SameConfig.trans {s t u : State} (hst : s.SameConfig t) (htu : t.SameConfig u) : s.SameConfig u :=
  ⟨htu.tsel.trans hst.tsel, htu.ext.trans hst.ext, htu.cfgDone.trans hst.cfgDone, htu.tables.trans hst.tables⟩

/-- An attention edge that arrives moves the line, and no register yet (notes/assumptions/30). -/
theorem State.sameConfig_arrive (s : State) (e : Event) : s.SameConfig (s.arrive e) := ⟨rfl, rfl, rfl, rfl⟩

/-- No instruction writes the table ROM (R33). -/
theorem exec_keeps_tables {i : Instr} {s t : State} (h : exec i s = .next t) : t.tables = s.tables := by
  cases i with
  | _ => cases h; rfl

/-! ### No second MODESEL -/

/-- No host byte decodes to MODESEL (R73). -/
theorem decodeByte_ne_snapModesel (st : SeqState) (b : Byte) (raw : Snapshot) : decodeByte st b ≠ .snapModesel raw := by
  cases st with
  | idle | ready => rw [decodeByte]; split <;> simp
  | _ => simp [decodeByte]

/-- Once `CFG_DONE` is 1, no event decodes to MODESEL (R104). -/
theorem decode_sample_ne_snapModesel {s : State} (hs : s.cfgDone = true) (e : Event) (raw : Snapshot) :
    decode (s.sample e) ≠ .snapModesel raw := by
  cases e with
  | por | select | deselect => simp [State.sample, decode]
  | snap raw' => simp [decode_sample_snap_of_cfgDone raw' hs]
  | rx b =>
    cases hrx : s.rxEnabled
    · simp [State.sample, hrx, decode]
    · simp [State.sample, hrx, decodeByte_ne_snapModesel]

/-! ### The configuration under events and along runs -/

/-- A configured core keeps its configuration under every event but POR (R208). -/
theorem deliver_keeps_config {s t : State} {e : Event} (hs : s.cfgDone = true) (hpor : e ≠ .por)
    (h : deliver e s = .next t) : s.SameConfig t := by
  obtain ⟨htsel, hext, hcfg⟩ :=
    exec_keeps_config h (decode_sample_ne_snapModesel hs e) (mt eq_por_of_decode_sample hpor)
  exact (s.sameConfig_arrive e).trans ⟨htsel, hext, hcfg, exec_keeps_tables h⟩

/-- Every run completes (R160). -/
theorem runEvents_next (s : State) (es : List Event) : ∃ u, runEvents s es = some u := by
  induction es generalizing s with
  | nil => exact ⟨s, runEvents_nil s⟩
  | cons e es ih =>
    obtain ⟨t, ht⟩ := deliver_next e s
    rw [runEvents_cons ht]
    exact ih t

/-- A configured core keeps its configuration along every run without POR (R208). -/
theorem runEvents_keeps_config {s u : State} {es : List Event} (hs : s.cfgDone = true) (hpor : Event.por ∉ es)
    (hrun : runEvents s es = some u) : s.SameConfig u :=
  runEvents_keeps (P := s.SameConfig) (allowed := (· ≠ .por))
    (fun he ht hst => hst.trans (deliver_keeps_config (hst.cfgDone.trans hs) he ht))
    (fun _ he => ne_of_mem_of_not_mem he hpor) hrun (.refl s)

/-! ### The statement -/

/-- Settles O23: while `CFG_DONE` is 1 a snapshot is PUBLISH, and only MODESEL and POR write the configuration; the run
keeps `CFG_DONE` along with it. -/
theorem configurationFixedUntilPowerOff : Obligations.ConfigurationFixedUntilPowerOff := by
  refine ⟨fun s t raw hs h => ?_, fun s es hs hpor => ?_⟩
  · have hsame : s.SameConfig t := deliver_keeps_config hs (by simp) h
    exact ⟨hsame.tsel, hsame.ext⟩
  · obtain ⟨u, hu⟩ := runEvents_next s es
    have hsame : s.SameConfig u := runEvents_keeps_config hs hpor hu
    exact ⟨u, hu, hsame.tsel, hsame.ext, hsame.tables⟩

end Sys2Proof.Machine
end

section
/-! PROOFS. The events that leave no choice, as functions of the state they meet: SELECT and DESELECT
(`42_responder.md` R153, R154), POR (`70_reset_and_hazards.md` R200) and a snapshot (`40_mapping.md` R104). -/

namespace Sys2Proof.Machine

/-- The state after a SELECT (R154). -/
def State.selected (s : State) : State := { s.silent with att := true, attnPin := true }

/-- The state after a DESELECT (R153). -/
def State.deselected (s : State) : State := { s.sessionReset.silent with att := false, attnPin := false }

/-- The state after the mode-select snapshot (R120). -/
def State.configured (s : State) (raw : Snapshot) : State :=
  { s.silent with
    tsel := selectTable (normalizeRaw raw), ext := extFlag (normalizeRaw raw)
    analog := Vector.replicate 12 abPressed, cfgDone := true }

/-- The state after a POR (R200). -/
def State.poweredOn (s : State) : State :=
  { s.sessionReset.silent with
    btnmask := params.btnmaskReset, analog := Vector.replicate 12 abPressed, tsel := defaultTable
    ext := false, cfgDone := false, att := s.attnPin }

/-- The state after a snapshot, routed on `CFG_DONE` (R104). -/
def State.snapped (s : State) (raw : Snapshot) : State :=
  if s.cfgDone then (s.published raw).silent else s.configured raw

theorem deliver_por_next (s : State) : deliver .por s = .next s.poweredOn := rfl

theorem deliver_select_next (s : State) : deliver .select s = .next s.selected := rfl

theorem deliver_deselect_next (s : State) : deliver .deselect s = .next s.deselected := rfl

theorem deliver_snap_configured {s : State} (raw : Snapshot) (h : s.cfgDone = false) :
    deliver (.snap raw) s = .next (s.configured raw) :=
  deliver_snap_modesel raw h

theorem deliver_snap_published {s : State} (raw : Snapshot) (h : s.cfgDone = true) :
    deliver (.snap raw) s = .next (s.published raw).silent :=
  deliver_snap_publish raw h

theorem deliver_snap_next (raw : Snapshot) (s : State) : deliver (.snap raw) s = .next (s.snapped raw) := by
  cases hcfg : s.cfgDone
  · rw [deliver_snap_configured raw hcfg, State.snapped, hcfg, if_neg Bool.false_ne_true]
  · rw [deliver_snap_published raw hcfg, State.snapped, hcfg, if_pos rfl]

end Sys2Proof.Machine
end

section
/-! PROOFS. The invariant of `10_state.md` section 7 (R36, R155): every step keeps it. -/

namespace Sys2Proof.Machine

/-! ### How the invariant is met -/

/-- The reset values of the session group fit IDLE, in either identity (R36). -/
theorem State.SessionHeld.countersFit {s : State} (h : s.SessionHeld) : s.CountersFit := by
  obtain ⟨hst, hstick, hsent, -, -⟩ := h
  simp [State.CountersFit, hst, hstick, hsent]

/-- With the session group at its reset values the invariant is a matter of the other registers (R155). -/
theorem State.SessionHeld.inv {s : State} (h : s.SessionHeld) (htsel : s.tsel ≠ 0#3)
    (hanalog : ∀ c (hc : c < 12), s.analog[c] = abPressed ∨ s.analog[c] = abReleased) (hrom : s.tables.wf = true) :
    s.Inv :=
  ⟨h.countersFit, fun _ => h, fun _ => h, fun _ => h, htsel, hanalog, hrom⟩

/-- An array that MODESEL or POR filled with one byte holds only legal channels (R26). -/
theorem getElem_replicate_abPressed (c : Nat) (hc : c < 12) :
    (Vector.replicate 12 abPressed)[c] = abPressed ∨ (Vector.replicate 12 abPressed)[c] = abReleased :=
  .inl (Vector.getElem_replicate hc)

/-- TRANSLATE writes 0x00 or 0xFF to every channel (law (4) of TRANSLATE). -/
theorem translateSnapshot_channel_range (S : Snapshot) (t : Table) (c : Nat) (hc : c < 12) :
    (translateSnapshot S t).2[c] = abPressed ∨ (translateSnapshot S t).2[c] = abReleased := by
  rw [translateSnapshot_channel S t c hc]
  exact ite_eq_or_eq _ _ _

/-- A one-shot at rest stays at rest, so time does not disturb a session group at its reset values (R190). -/
theorem State.SessionHeld.elapse {s : State} (h : s.SessionHeld) : s.elapse.SessionHeld := by
  obtain ⟨hst, hstick, hsent, htx, hack⟩ := h
  exact ⟨hst, hstick, hsent, htx, by rw [State.elapse_ack, hack]; rfl⟩

/-! ### Time, the input and the events that leave the session group alone -/

theorem State.Inv.elapse {s : State} (h : s.Inv) : s.elapse.Inv :=
  ⟨h.counters, fun hatt => (h.deselected hatt).elapse, fun hcfg => (h.unconfigured hcfg).elapse,
    fun hst => (h.idleHeld hst).elapse, h.tselLegal, h.analogRange, h.romWf⟩

theorem State.Inv.takeEvent {s : State} (h : s.Inv) : s.takeEvent.1.Inv := by
  rw [takeEvent_frame s]
  exact ⟨h.counters, h.deselected, h.unconfigured, h.idleHeld, h.tselLegal, h.analogRange, h.romWf⟩

theorem State.Inv.silent {s : State} (h : s.Inv) : s.silent.Inv :=
  ⟨h.counters, h.deselected, h.unconfigured, h.idleHeld, h.tselLegal, h.analogRange, h.romWf⟩

theorem State.Inv.unanswered {s : State} (h : s.Inv) : s.unanswered.Inv :=
  ⟨h.counters, h.deselected, h.unconfigured, h.idleHeld, h.tselLegal, h.analogRange, h.romWf⟩

theorem State.Inv.published {s : State} (h : s.Inv) (raw : Snapshot) : (s.published raw).Inv :=
  ⟨h.counters, h.deselected, h.unconfigured, h.idleHeld, h.tselLegal, translateSnapshot_channel_range _ _, h.romWf⟩

theorem State.Inv.selected {s : State} (h : s.Inv) : s.selected.Inv :=
  ⟨h.counters, Bool.noConfusion, h.unconfigured, h.idleHeld, h.tselLegal, h.analogRange, h.romWf⟩

/-! ### The events that write the session group -/

theorem State.Inv.deselected_inv {s : State} (h : s.Inv) : s.deselected.Inv :=
  State.SessionHeld.inv ⟨rfl, rfl, rfl, rfl, rfl⟩ h.tselLegal h.analogRange h.romWf

theorem State.Inv.poweredOn {s : State} (h : s.Inv) : s.poweredOn.Inv :=
  State.SessionHeld.inv ⟨rfl, rfl, rfl, rfl, rfl⟩ (by decide : defaultTable ≠ 0#3) getElem_replicate_abPressed h.romWf

/-- MODESEL changes the identity, which no counter depends on before mode selection (R36). -/
theorem State.Inv.configured {s : State} (h : s.Inv) (hcfg : s.cfgDone = false) (raw : Snapshot) :
    (s.configured raw).Inv :=
  State.SessionHeld.inv (h.unconfigured hcfg) (selectTable_ne_zero _) getElem_replicate_abPressed h.romWf

/-- A stick counter that is not 0 counts down without wrapping (R158). -/
theorem stickRem_pred {r : BitVec 3} (h : 1 ≤ r.toNat) : (r - 1#3).toNat + 1 = r.toNat := by
  bv_omega

/-- An analog counter within the channels counts up without wrapping (R158). -/
theorem abSent_succ {n : BitVec 4} (h : n.toNat ≤ 11) : (n + 1#4).toNat = n.toNat + 1 := by
  bv_omega

/-- RX_STICK leads to STICKS with a byte left to send, or to ANALOG with none (R148). -/
theorem countersFit_rxStick {s : State} (h : s.CountersFit) (hs : s.st = .sticks) :
    State.CountersFit { s.accept params.stickNeutral true with
      stickRem := s.stickRem - 1#3
      st := if s.stickRem - 1#3 = 0#3 then .analog else s.st } := by
  simp only [State.CountersFit, hs] at h
  obtain ⟨hpos, hle, hsent, hext⟩ := h
  have hpred := stickRem_pred hpos
  by_cases hlast : s.stickRem - 1#3 = 0#3
  · simp [State.CountersFit, hlast, hsent, hext]
  · have hne : (s.stickRem - 1#3).toNat ≠ 0 := fun h0 => hlast (BitVec.eq_of_toNat_eq h0)
    simp only [State.CountersFit, if_neg hlast, hs]
    exact ⟨by omega, by omega, hsent, hext⟩

/-- RX_ANALOG leads to ANALOG with a channel left to send, or to DONE with none (R149). -/
theorem countersFit_rxAnalog {s : State} (r : Byte) (h : s.CountersFit) (hs : s.st = .analog) :
    State.CountersFit { s.accept r true with
      abSent := s.abSent + 1#4
      st := if s.abSent + 1#4 = nAnalogCount then .done else s.st } := by
  simp only [State.CountersFit, hs] at h
  obtain ⟨hstick, hle, hext⟩ := h
  have hsucc := abSent_succ hle
  by_cases hlast : s.abSent + 1#4 = 12#4
  · simp [State.CountersFit, hlast, hstick, hext]
  · have hne : (s.abSent + 1#4).toNat ≠ 12 := fun h0 => hlast (BitVec.eq_of_toNat_eq h0)
    simp only [State.CountersFit, nAnalogCount_eq, if_neg hlast, hs]
    exact ⟨hstick, by omega, hext⟩

/-- The counters after an accepted byte are those R36 lists for the state it leads to. -/
theorem State.CountersFit.deliver_rx {s t : State} {b : Byte} (h : s.CountersFit) (hrx : s.rxEnabled = true)
    (ht : deliver (.rx b) s = .next t) : t.CountersFit := by
  obtain ⟨hs, -, rfl⟩ | ⟨hs, -, rfl⟩ | ⟨hs, -, rfl⟩ | ⟨hs, -, rfl⟩ | ⟨hs, rfl⟩ | ⟨hs, rfl⟩ | ⟨hs, rfl⟩ | ⟨hs, rfl⟩
    | ⟨-, rfl⟩ := deliver_rx_cases hrx ht
  · simpa [State.CountersFit, hs] using h
  · simpa [State.CountersFit, hs] using h
  · simpa [State.CountersFit, hs] using h
  · exact h
  · simpa [State.CountersFit, hs] using h
  · obtain ⟨hstick, hsent⟩ : s.stickRem = 4#3 ∧ s.abSent = 0#4 := by simpa [State.CountersFit, hs] using h
    cases hext : s.ext <;> simp [State.CountersFit, hext, hstick, hsent]
  · exact countersFit_rxStick h hs
  · exact countersFit_rxAnalog _ h hs
  · exact h

/-- No accepted byte leads to IDLE (R142, R153). -/
theorem st_ne_idle_of_deliver_rx {s t : State} {b : Byte} (hrx : s.rxEnabled = true)
    (ht : deliver (.rx b) s = .next t) : t.st ≠ .idle := by
  obtain ⟨-, -, rfl⟩ | ⟨-, -, rfl⟩ | ⟨-, -, rfl⟩ | ⟨hs, -, rfl⟩ | ⟨-, rfl⟩ | ⟨-, rfl⟩ | ⟨hs, rfl⟩ | ⟨hs, rfl⟩
    | ⟨hs, rfl⟩ := deliver_rx_cases hrx ht
  · simp
  · simp
  · simp
  · simp [hs]
  · simp
  · dsimp only; split <;> simp
  · dsimp only; split <;> simp [hs]
  · dsimp only; split <;> simp [hs]
  · obtain hs | hs := hs <;> simp [hs]

/-- An accepted byte is committed as one response; beside that it moves only the sequencer and its counters (R140). -/
theorem exists_accept_of_deliver_rx {s t : State} {b : Byte} (hrx : s.rxEnabled = true)
    (ht : deliver (.rx b) s = .next t) :
    ∃ r a, t = { s.accept r a with st := t.st, stickRem := t.stickRem, abSent := t.abSent } := by
  obtain ⟨-, -, rfl⟩ | ⟨-, -, rfl⟩ | ⟨-, -, rfl⟩ | ⟨-, -, rfl⟩ | ⟨-, rfl⟩ | ⟨-, rfl⟩ | ⟨-, rfl⟩ | ⟨-, rfl⟩ | ⟨-, rfl⟩ :=
    deliver_rx_cases hrx ht
  · exact ⟨_, _, rfl⟩
  · exact ⟨_, _, rfl⟩
  · exact ⟨_, _, rfl⟩
  · exact ⟨params.neutral, false, rfl⟩
  · exact ⟨_, _, rfl⟩
  · exact ⟨_, _, rfl⟩
  · exact ⟨_, _, rfl⟩
  · exact ⟨_, _, rfl⟩
  · exact ⟨params.neutral, false, rfl⟩

theorem State.Inv.deliver_rx {s t : State} {b : Byte} (h : s.Inv) (hrx : s.rxEnabled = true)
    (ht : deliver (.rx b) s = .next t) : t.Inv := by
  have hcounters := h.counters.deliver_rx hrx ht
  have hidle := st_ne_idle_of_deliver_rx hrx ht
  obtain ⟨hcfg, hatt⟩ := Bool.and_eq_true_iff.mp hrx
  obtain ⟨r, a, heq⟩ := exists_accept_of_deliver_rx hrx ht
  refine ⟨hcounters, fun h0 => ?_, fun h0 => ?_, fun h0 => absurd h0 hidle, ?_, ?_, ?_⟩
  · rw [heq] at h0; exact absurd hatt (by simpa using h0)
  · rw [heq] at h0; exact absurd hcfg (by simpa using h0)
  all_goals rw [heq]
  · exact h.tselLegal
  · exact h.analogRange
  · exact h.romWf

/-! ### Every event and every step -/

/-- Every event keeps the invariant. -/
theorem State.Inv.deliver {s t : State} {e : Event} (h : s.Inv) (ht : deliver e s = .next t) : t.Inv := by
  obtain ⟨-, hpor⟩ | ⟨raw, -, hcfg, hsel⟩ | ⟨raw, -, -, rfl⟩ | ⟨-, rfl⟩ | ⟨-, rfl⟩ | ⟨b, -, -, rfl⟩ | ⟨b, -, hrx, hb⟩ :=
    deliver_cases ht
  · cases hpor
    exact h.poweredOn
  · cases hsel
    exact h.configured hcfg raw
  · exact (h.published raw).silent
  · exact h.selected
  · exact h.deselected_inv
  · exact h.unanswered
  · exact h.deliver_rx hrx hb

/-- Settles O5: time and the taking of an event keep the invariant, and so does every event. -/
theorem stepKeepsInvariant : Obligations.StepKeepsInvariant := by
  intro s t hs ht
  obtain ⟨-, rfl⟩ | ⟨e, -, he⟩ := step_cases ht
  · exact hs.elapse.takeEvent.silent
  · exact hs.elapse.takeEvent.deliver he

/-- Settles O4: after reset the session group has its reset values, and the parameter TABLES is well formed. -/
theorem resetMeetsInvariant : Obligations.ResetMeetsInvariant :=
  State.SessionHeld.inv ⟨rfl, rfl, rfl, rfl, rfl⟩ (by decide : defaultTable ≠ 0#3) getElem_replicate_abPressed
    Config.tables.ok

end Sys2Proof.Machine
end

section
/-! PROOFS. Encodings: the decoder and its table (`30_encoding.md` R73), table entries and their checks (R78, R79), and the
slots of the table ROM (`20_memory.md` R60). -/

namespace Sys2Proof

/-! ### Decode and encode -/

/-- The decoder answers well-formed instructions only: the exact row of a state comes before its catch-all (R73). -/
theorem decodeByte_wf (st : SeqState) (b : Byte) : (decodeByte st b).wf = true := by
  cases st with
  | idle | ready =>
    rw [decodeByte]
    split
    · rfl
    · next hb => exact bne_iff_ne.mpr hb
  | _ => rfl

/-- The encoder gives a decoded byte its key back (R72, R73). -/
theorem encode_decodeByte (st : SeqState) (b : Byte) :
    encode (decodeByte st b) = .hostByte true (keyOf st b) := by
  cases st with
  | idle | ready =>
    rw [decodeByte]
    split
    · next hb => rw [hb]; rfl
    · rfl
  | _ => rfl

/-- The decoder gives a well-formed instruction back, operand and all (R73, R86). -/
theorem decode_encode {i : Instr} (h : i.wf = true) : decode (encode i) = i := by
  cases i with
  | rxIdleOther b => rw [encode, decode_hostByte, decodeByte, if_neg (bne_iff_ne.mp h)]
  | rxReadyOther b => rw [encode, decode_hostByte, decodeByte, if_neg (bne_iff_ne.mp h)]
  | rxDisabled | por | snapModesel | snapPublish | select | deselect => rfl
  | _ => rw [encode, decode_hostByte]; rfl

/-- Settles O27: a key is made of its state and its byte, and each row of R73 keeps what its mask leaves free. -/
theorem decodeEncodeAgree : Obligations.DecodeEncodeAgree := by
  refine ⟨fun i h => decode_encode h, fun c => ?_⟩
  match c with
  | .hostByte true k =>
    rw [← Key.eq_keyOf k, decode_hostByte]
    exact ⟨decodeByte_wf _ _, encode_decodeByte _ _⟩
  | .hostByte false _ | .por | .snap false _ | .snap true _ | .select | .deselect => exact ⟨rfl, rfl⟩

/-- Settles O26: each key is a literal, and the decoder computes its row. -/
theorem writtenKeysDecode : Obligations.WrittenKeysDecode := by
  unfold Obligations.WrittenKeysDecode
  decide

/-! ### The rows of the opcode table -/

/-- A key determines its state and its byte (R72). -/
theorem keyOf_inj {st st' : SeqState} {b b' : Byte} : keyOf st b = keyOf st' b' ↔ st = st' ∧ b = b' := by
  refine ⟨fun h => ⟨?_, ?_⟩, fun ⟨hst, hb⟩ => by rw [hst, hb]⟩
  · rw [← Key.state_keyOf st b, h, Key.state_keyOf]
  · rw [← Key.byte_keyOf st b, h, Key.byte_keyOf]

/-- An exact row matches the one key it is written for (R73). -/
theorem exactRow_matches (st st' : SeqState) (b b' : Byte) (make : Byte → Instr) :
    HostRow.matches ⟨0x7FF#11, keyOf st' b', make⟩ (keyOf st b) = decide (st = st' ∧ b = b') := by
  have hmask : keyOf st b &&& 0x7FF#11 = keyOf st b := BitVec.and_allOnes
  rw [HostRow.matches, hmask, beq_eq_decide, decide_eq_decide]
  exact keyOf_inj

/-- A catch-all row matches every key of its state (R73). -/
theorem catchAllRow_matches (st st' : SeqState) (b : Byte) (make : Byte → Instr) :
    HostRow.matches ⟨0x700#11, keyOf st' 0#8, make⟩ (keyOf st b) = decide (st = st') := by
  rw [HostRow.matches, Laws.TableRow.keyOf_and_mask, beq_eq_decide, decide_eq_decide]
  exact keyOf_inj.trans (and_iff_left rfl)

/-- The rows of R73 with their patterns written as keys. -/
theorem hostRows_eq_keyOf : hostRows =
    [ ⟨0x7FF#11, keyOf .idle startCmd, fun _ => .rxIdleStart⟩,
      ⟨0x700#11, keyOf .idle 0#8, .rxIdleOther⟩,
      ⟨0x7FF#11, keyOf .ready readCmd, fun _ => .rxReadyRead⟩,
      ⟨0x700#11, keyOf .ready 0#8, .rxReadyOther⟩,
      ⟨0x700#11, keyOf .sendLo 0#8, .rxSendLo⟩,
      ⟨0x700#11, keyOf .sendHi 0#8, .rxSendHi⟩,
      ⟨0x700#11, keyOf .sticks 0#8, .rxStick⟩,
      ⟨0x700#11, keyOf .analog 0#8, .rxAnalog⟩,
      ⟨0x700#11, keyOf .done 0#8, .rxDone⟩,
      ⟨0x700#11, keyOf .passive 0#8, .rxPassive⟩ ] := rfl

/-- The first row that matches a key stands for the instruction the decoder gives (R73). -/
theorem find?_hostRows (st : SeqState) (b : Byte) :
    (hostRows.find? fun r => r.matches (keyOf st b)).map (fun r => r.make b) = some (decodeByte st b) := by
  rw [hostRows_eq_keyOf]
  cases st with
  | idle => by_cases hb : b = startCmd <;> simp [exactRow_matches, catchAllRow_matches, decodeByte, hb]
  | ready => by_cases hb : b = readCmd <;> simp [exactRow_matches, catchAllRow_matches, decodeByte, hb]
  | _ => simp [exactRow_matches, catchAllRow_matches, decodeByte]

/-- A key matches its state's catch-all row, and its exact row where it is the start or the read command (R73). -/
theorem length_filter_hostRows (st : SeqState) (b : Byte) :
    (hostRows.filter fun r => r.matches (keyOf st b)).length
      = if (st = .idle ∧ b = startCmd) ∨ (st = .ready ∧ b = readCmd) then 2 else 1 := by
  rw [hostRows_eq_keyOf]
  cases st with
  | idle => by_cases hb : b = startCmd <;> simp [exactRow_matches, catchAllRow_matches, hb]
  | ready => by_cases hb : b = readCmd <;> simp [exactRow_matches, catchAllRow_matches, hb]
  | _ => simp [exactRow_matches, catchAllRow_matches]

/-- Settles O28: the two keys with two rows are those of the two exact rows. -/
theorem decodeTakesFirstMatchingRow : Obligations.DecodeTakesFirstMatchingRow := by
  have hstart : 0x001#11 = keyOf .idle startCmd := rfl
  have hread : 0x142#11 = keyOf .ready readCmd := rfl
  refine ⟨fun k => ?_, fun k => ?_⟩ <;> rw [← Key.eq_keyOf k]
  · rw [Key.byte_keyOf, decode_hostByte]
    exact find?_hostRows _ _
  · rw [hstart, hread, length_filter_hostRows]
    simp only [keyOf_inj]

/-! ### The checks of a table -/

/-- Pairwise absence of a symmetric clash says that clashing positions are equal. -/
theorem pairwise_not_iff_getElem {α : Type} {R : α → α → Prop} (hsymm : ∀ a b, R a b → R b a) (l : List α) :
    l.Pairwise (fun a b => ¬ R a b)
      ↔ ∀ (j k : Nat) (hj : j < l.length) (hk : k < l.length), R l[j] l[k] → j = k := by
  rw [List.pairwise_iff_getElem]
  constructor
  · intro h j k hj hk hR
    by_contra hne
    obtain hlt | hlt := Nat.lt_or_gt_of_ne hne
    · exact h j k hj hk hlt hR
    · exact h k j hk hj hlt (hsymm _ _ hR)
  · intro h j k hj hk hlt hR
    exact hlt.ne (h j k hj hk hR)

/-- WF_DST_DISJOINT by positions (R79). -/
theorem nodup_map_dst_iff (t : Table) :
    (t.map Entry.dst).Nodup
      ↔ ∀ (j k : Nat) (hj : j < t.length) (hk : k < t.length), t[j].dst = t[k].dst → j = k := by
  rw [← pairwise_not_iff_getElem (R := fun a b : Entry => a.dst = b.dst) (fun _ _ h => h.symm), List.Nodup,
    List.pairwise_map]

/-- WF_ACH_DISJOINT by positions (R79). -/
theorem nodup_filterMap_ach_iff (t : Table) :
    (t.filterMap Entry.ach).Nodup
      ↔ ∀ (j k : Nat) (hj : j < t.length) (hk : k < t.length), t[j].ach = t[k].ach → t[j].ach ≠ none → j = k := by
  have hclash : ∀ a b : Entry, (∀ c, a.ach = some c → ∀ c', b.ach = some c' → c ≠ c')
      ↔ ¬ (a.ach = b.ach ∧ a.ach ≠ none) := by
    intro a b
    cases a.ach <;> cases b.ach <;> simp
  have hpos := pairwise_not_iff_getElem (R := fun a b : Entry => a.ach = b.ach ∧ a.ach ≠ none)
    (fun _ _ ⟨heq, hne⟩ => ⟨heq.symm, heq ▸ hne⟩) t
  rw [List.Nodup, List.pairwise_filterMap]
  simp only [hclash, hpos, and_imp]

/-- The six checks of R79 spelled out. -/
theorem Table.wf_iff (t : Table) : Table.wf t = true ↔
    t.length ≤ 16 ∧ (∀ e ∈ t, 4 ≤ e.src ∧ e.src ≤ 15) ∧ (∀ e ∈ t, e.dst ≤ 15) ∧ (t.map Entry.dst).Nodup
      ∧ (∀ e ∈ t, ∀ c, e.ach = some c → c ≤ 11) ∧ (t.filterMap Entry.ach).Nodup := by
  simp [Table.wf, TableCheck.order, TableCheck.holds, Option.all_eq_true, Nat.lt_succ_iff]

/-- Settles O31: the checks name their conditions; the two about distinctness speak of positions instead of lists. -/
theorem tableChecksMeanTheirRules : Obligations.TableChecksMeanTheirRules := by
  intro t
  rw [← nodup_map_dst_iff, ← nodup_filterMap_ach_iff]
  exact Table.wf_iff t

/-! ### Packed entries and the slots of the ROM -/

/-- Four channel bits name the channel they were written from (R78). -/
theorem achOfCode_achCode {ach : Option Nat} (h : ∀ c, ach = some c → c ≤ 11) : achOfCode (achCode ach) = ach := by
  cases ach with
  | none => rfl
  | some c =>
    have hc : c ≤ 11 := h c rfl
    have hne : BitVec.ofNat 4 c ≠ 0xF#4 := by bv_omega
    rw [achCode, achOfCode, if_neg hne, BitVec.toNat_ofNat, Nat.mod_eq_of_lt (by omega)]

/-- Every four channel bits are written from the channel they name (R78). -/
theorem achCode_achOfCode (c : BitVec 4) : achCode (achOfCode c) = c := by
  unfold achOfCode
  split
  · next h => rw [h]; rfl
  · rw [achCode, BitVec.ofNat_toNat, BitVec.setWidth_eq]

/-- The 12 bits of an entry hold all of it, where its fields are in range (R78). -/
theorem Entry.unpack_pack {e : Entry} (hsrc : e.src ≤ 15) (hdst : e.dst ≤ 15)
    (hach : ∀ c, e.ach = some c → c ≤ 11) : Entry.unpack e.pack = e := by
  have h8 : e.pack.extractLsb' 8 4 = BitVec.ofNat 4 e.src := by
    rw [Entry.pack, BitVec.append_assoc]
    exact BitVec.extractLsb'_append_eq_left
  have h4 : e.pack.extractLsb' 4 4 = BitVec.ofNat 4 e.dst := by
    rw [Entry.pack, BitVec.extractLsb'_append_eq_of_le (by decide)]
    exact BitVec.extractLsb'_append_eq_right
  have h0 : e.pack.extractLsb' 0 4 = achCode e.ach := BitVec.extractLsb'_append_eq_right
  rw [Entry.unpack, h8, h4, h0, achOfCode_achCode hach, BitVec.toNat_ofNat, BitVec.toNat_ofNat,
    Nat.mod_eq_of_lt (by omega), Nat.mod_eq_of_lt (by omega)]

/-- The entry of 12 bits holds all of them (R78). -/
theorem Entry.pack_unpack (w : BitVec 12) : (Entry.unpack w).pack = w := by
  have hfields : w.extractLsb' 8 4 ++ w.extractLsb' 4 4 ++ w.extractLsb' 0 4 = w := by
    rw [BitVec.extractLsb'_append_extractLsb'_eq_extractLsb' (start₁ := 4) (len₁ := 4) (by rfl)]
    exact BitVec.extractLsb'_append_extractLsb'
  rw [Entry.pack, Entry.unpack]
  simp only [BitVec.ofNat_toNat, BitVec.setWidth_eq, achCode_achOfCode]
  exact hfields

/-- An entry of a well-formed table survives packing (R78, R79). -/
theorem Entry.unpack_pack_of_wf {t : Table} (hwf : t.wf = true) {e : Entry} (he : e ∈ t) :
    Entry.unpack e.pack = e := by
  obtain ⟨-, hsrc, hdst, -, hach, -⟩ := (Table.wf_iff t).mp hwf
  exact Entry.unpack_pack (hsrc e he).2 (hdst e he) (hach e he)

/-- What a slot holds of the entry at its place, if there is one (R60). -/
def slotOf : Option Entry → BitVec 13
  | some e => 1#1 ++ e.pack
  | none   => 0#13

/-- Address `16 t + k` is slot `k` of the table with index `t` (R60). -/
theorem Rom.slot_eq (rom : Rom) {t k : Nat} (ht : t < 7) (hk : k < 16) :
    rom.slot (t * 16 + k) = some (slotOf rom[t][k]?) := by
  have hdiv : (t * 16 + k) / 16 = t := by omega
  have hmod : (t * 16 + k) % 16 = k := by omega
  rw [Rom.slot, hdiv, hmod, Vector.getElem?_eq_getElem ht, Option.map_some]
  cases rom[t][k]? <;> rfl

/-- A slot gives the unpacked entry back, and an empty slot none (R60). -/
theorem slotEntry_slotOf (o : Option Entry) : slotEntry (slotOf o) = o.map fun e => Entry.unpack e.pack := by
  cases o with
  | none => rfl
  | some e =>
    have hvalid : (1#1 ++ e.pack).getLsbD 12 = true := by rw [BitVec.getLsbD_append]; rfl
    have hentry : (1#1 ++ e.pack).extractLsb' 0 12 = e.pack := BitVec.extractLsb'_append_eq_right
    rw [slotOf, slotEntry, if_pos hvalid, hentry, Option.map_some]

/-- Reading a list position by position gives its beginning. -/
theorem filterMap_getElem?_range {α : Type} (l : List α) (n : Nat) :
    (List.range n).filterMap (fun k => l[k]?) = l.take n := by
  induction n with
  | zero => rfl
  | succ n ih =>
    rw [List.range_succ, List.filterMap_append, ih, List.take_add_one]
    cases h : l[n]? <;> simp [h]

/-- A table read back from its 16 slots is that table (R60). -/
theorem Rom.readTable_eq (rom : Rom) {t : Nat} (ht : t < 7) (hwf : Table.wf rom[t] = true) :
    rom.readTable (t + 1) = rom[t] := by
  have hslots : ∀ k ∈ List.range 16, (rom.slot ((t + 1 - 1) * 16 + k)).bind slotEntry = rom[t][k]? := by
    intro k hk
    rw [Nat.add_sub_cancel, Rom.slot_eq rom ht (List.mem_range.mp hk), Option.bind_some, slotEntry_slotOf]
    cases he : rom[t][k]? with
    | none => rfl
    | some e => rw [Option.map_some, Entry.unpack_pack_of_wf hwf (List.mem_of_getElem? he)]
  obtain ⟨hlen, -⟩ := (Table.wf_iff _).mp hwf
  rw [Rom.readTable, List.filterMap_congr hslots, filterMap_getElem?_range, List.take_of_length_le hlen]

/-- Each table of a well-formed ROM is well formed (R204 (1)). -/
theorem Rom.wf_getElem {rom : Rom} (h : rom.wf = true) {t : Nat} (ht : t < 7) : Table.wf rom[t] = true :=
  List.all_eq_true.mp h _ (Vector.mem_toList_iff.mpr (Vector.getElem_mem ht))

/-- Settles O30: the slot at `16 t + k` holds entry `k` of table `t + 1`, and packing loses nothing of it. -/
theorem romSlotsHoldTheTables : Obligations.RomSlotsHoldTheTables := by
  intro rom hwf
  refine ⟨fun t ht => rom.readTable_eq ht (Rom.wf_getElem hwf ht), fun addr haddr => ?_, fun addr haddr => ?_,
    fun t ht e he => Entry.unpack_pack_of_wf (Rom.wf_getElem hwf ht) he, Entry.pack_unpack⟩
  · rw [Rom.slot, Vector.getElem?_eq_none (by omega), Option.map_none]
  · rw [← Nat.div_add_mod' addr 16]
    exact ⟨_, rom.slot_eq (by omega) (by omega)⟩

end Sys2Proof
end

section
/-! PROOFS. The laws of TRANSLATE (`40_mapping.md`) and what SELECT_TABLE reads (`41_mode_select.md` R121). -/

namespace Sys2Proof.Machine

/-! ### TRANSLATE -/

/-- A result of TRANSLATE is its 16 mask bits and its 12 channels. -/
theorem maskAndChannels_ext {p q : Mask × AnalogArray} (hmask : ∀ d, d < 16 → p.1.getLsbD d = q.1.getLsbD d)
    (hchannel : ∀ c (h : c < 12), p.2[c] = q.2[c]) : p = q :=
  Prod.ext (BitVec.eq_of_getLsbD_eq hmask) (Vector.ext hchannel)

/-- TRANSLATE reads a snapshot only at the sources of the table (R101). -/
theorem translateSnapshot_congr {S S' : Snapshot} {t : Table} (h : ∀ e ∈ t, pressed S e.src = pressed S' e.src) :
    translateSnapshot S t = translateSnapshot S' t :=
  List.foldl_ext _ _ _ fun acc e he => by rw [translateEntry, translateEntry, h e he]

/-- Settles O34: a mask bit and a channel ask only whether the table has some entry of a kind. -/
theorem translateIgnoresEntryOrder : Obligations.TranslateIgnoresEntryOrder := by
  intro S t t' hperm
  refine maskAndChannels_ext (fun d hd => ?_) fun c hc => ?_
  · rw [translateSnapshot_mask _ _ _ hd, translateSnapshot_mask _ _ _ hd, hperm.any_eq]
  · rw [translateSnapshot_channel _ _ _ hc, translateSnapshot_channel _ _ _ hc, hperm.any_eq]

/-- Settles O35: the pressed entry that clears a bit or presses a channel for `S` is still pressed for `S'`. -/
theorem translateIsMonotone : Obligations.TranslateIsMonotone := by
  intro S S' t hle
  obtain ⟨hmask, hchannel, -⟩ := translateClosedForm
  refine ⟨fun d hd h => ?_, fun c hc h => ?_, translateSnapshot_channel_range S t⟩
  · obtain ⟨e, he, hdst, hsrc⟩ := (hmask S t d hd).mp h
    exact (hmask S' t d hd).mpr ⟨e, he, hdst, hle _ hsrc⟩
  · obtain ⟨e, he, hach, hsrc⟩ := ((hchannel S t c hc).1).mp h
    exact ((hchannel S' t c hc).1).mpr ⟨e, he, hach, hle _ hsrc⟩

/-- Snapshots that agree above bit 3 agree on every button (R75). -/
theorem pressed_eq_of_shiftRight_eq {S S' : Snapshot} (h : S >>> 4 = S' >>> 4) {i : Nat} (hi : 4 ≤ i) :
    pressed S i = pressed S' i := by
  have hbit : (S >>> 4).getLsbD (i - 4) = (S' >>> 4).getLsbD (i - 4) := by rw [h]
  rwa [BitVec.getLsbD_ushiftRight, BitVec.getLsbD_ushiftRight, Nat.add_sub_cancel' hi] at hbit

/-- No source of a well-formed table is a reserved bit (WF_SRC), so the reserved bits do not reach TRANSLATE. -/
theorem translateSnapshot_eq_of_shiftRight_eq {S S' : Snapshot} {t : Table} (hwf : t.wf = true)
    (h : S >>> 4 = S' >>> 4) : translateSnapshot S t = translateSnapshot S' t := by
  obtain ⟨-, hsrc, -⟩ := (Table.wf_iff t).mp hwf
  exact translateSnapshot_congr fun e he => pressed_eq_of_shiftRight_eq h (hsrc e he).1

/-- The active table of a state that meets the invariant is one of the ROM's seven (R27, R33). -/
theorem State.Inv.tableOf_wf {s : State} (h : s.Inv) : Table.wf (tableOf s.tables s.tsel) = true := by
  have hne := h.tselLegal
  have hlt : s.tsel.toNat - 1 < 7 := by bv_omega
  rw [tableOf, if_neg hne, Vector.getElem?_eq_getElem hlt]
  exact Rom.wf_getElem h.romWf hlt

/-- Normalising two snapshots keeps where they agree (R100). -/
theorem normalizeRaw_shiftRight_eq {raw raw' : Snapshot} (h : raw >>> 4 = raw' >>> 4) :
    normalizeRaw raw >>> 4 = normalizeRaw raw' >>> 4 := by
  unfold normalizeRaw
  bv_omega

/-- Settles O36: WF_SRC keeps the reserved bits out of TRANSLATE, and under the invariant PUBLISH uses a table that
passes it. -/
theorem reservedSnapshotBitsAreIgnored : Obligations.ReservedSnapshotBitsAreIgnored := by
  refine ⟨fun S S' t hwf h => translateSnapshot_eq_of_shiftRight_eq hwf h, fun s raw raw' hs h => ?_⟩
  show execSnapPublish raw s = execSnapPublish raw' s
  rw [execSnapPublish, execSnapPublish,
    translateSnapshot_eq_of_shiftRight_eq hs.tableOf_wf (normalizeRaw_shiftRight_eq h)]

/-- A snapshot with one button held. -/
theorem pressed_single {i : Nat} (hi : i < 16) (j : Nat) : pressed (1#16 <<< i) j = decide (j = i) := by
  rw [pressed, ← BitVec.twoPow_eq, BitVec.getLsbD_twoPow, decide_eq_true hi, Bool.true_and]
  exact decide_eq_decide.mpr eq_comm

/-- The released mask with one bit cleared. -/
theorem getLsbD_clearBit_ones (d : Nat) {i : Nat} (hi : i < 16) :
    (clearBit 0xFFFF#16 d).getLsbD i = !decide (d = i) := by
  have hones : 0xFFFF#16 = BitVec.allOnes 16 := rfl
  rw [clearBit_getLsbD _ _ _ hi, hones, BitVec.getLsbD_allOnes, decide_eq_true hi, Bool.true_and]

/-- With one entry's source held, which no other entry has, that entry is the only pressed one. -/
theorem exists_pressed_single_iff {t : Table} {e : Entry} (hlt : e.src < 16) (he : e ∈ t)
    (honly : ∀ e' ∈ t, e'.src = e.src → e' = e) (P : Entry → Prop) :
    (∃ e' ∈ t, P e' ∧ pressed (1#16 <<< e.src) e'.src = true) ↔ P e := by
  simp only [pressed_single hlt, decide_eq_true_iff]
  exact ⟨fun ⟨e', he', hP, hsrc⟩ => honly e' he' hsrc ▸ hP, fun hP => ⟨e, he, hP, rfl⟩⟩

/-- Settles O37: the mask bit and the channel ask for a pressed entry, and there is just the one. -/
theorem singleButtonLaw : Obligations.SingleButtonLaw := by
  intro t e hwf he honly
  obtain ⟨-, hsrc, -⟩ := (Table.wf_iff t).mp hwf
  have hlt : e.src < 16 := Nat.lt_succ_of_le (hsrc e he).2
  refine ⟨BitVec.eq_of_getLsbD_eq fun d hd => ?_, fun c hc => ?_⟩
  · refine Eq.trans ?_ (getLsbD_clearBit_ones e.dst hd).symm
    rw [translateSnapshot_mask _ _ _ hd, Bool.not_inj_iff, Bool.eq_iff_iff]
    simp only [List.any_eq_true, Bool.and_eq_true, decide_eq_true_eq]
    exact exists_pressed_single_iff hlt he honly (·.dst = d)
  · rw [translateSnapshot_channel_eq_ite _ _ hc]
    simp only [exists_pressed_single_iff hlt he honly (·.ach = some c)]
    rfl

/-- With nothing held TRANSLATE releases everything. -/
theorem translateSnapshot_zero (t : Table) :
    translateSnapshot 0x0000#16 t = (0xFFFF#16, Vector.replicate 12 abReleased) := by
  have hnone : ∀ i, pressed 0x0000#16 i = false := fun i => BitVec.getLsbD_zero
  rw [translateSnapshot]
  induction t with
  | nil => rfl
  | cons e t ih => rw [List.foldl_cons, translateEntry, hnone, if_neg Bool.false_ne_true, ih]

/-- Settles O38: no entry of any table is pressed in the snapshot 0, which is what 0xFFFF is normalised to. -/
theorem releaseLaw : Obligations.ReleaseLaw := by
  refine ⟨translateSnapshot_zero, fun s => ?_⟩
  have hzero : normalizeRaw 0xFFFF#16 = 0x0000#16 := by decide
  show execSnapPublish 0xFFFF#16 s = _
  rw [execSnapPublish, hzero, translateSnapshot_zero]
  rfl

/-! ### SELECT_TABLE -/

/-- Settles O40: the seven candidate buttons are bits of the mask 0xF0E0, and SELECT_TABLE reads the listed buttons only. -/
theorem onlyCandidateButtonsSelectTables : Obligations.OnlyCandidateButtonsSelectTables := by
  intro S S' h
  have hbit : ∀ btn ∈ [Button.start, .select, .a, .b, .x, .y, .l], (0xF0E0#16).getLsbD btn.bit = true := by decide
  have hagree : ∀ btn ∈ [Button.start, .select, .a, .b, .x, .y, .l], pressed S btn.bit = pressed S' btn.bit := by
    intro btn hbtn
    have hand : (S &&& 0xF0E0#16).getLsbD btn.bit = (S' &&& 0xF0E0#16).getLsbD btn.bit := by rw [h]
    rwa [BitVec.getLsbD_and, BitVec.getLsbD_and, hbit btn hbtn, Bool.and_true, Bool.and_true] at hand
  have hby : ∀ priority : List (Button × BitVec 3),
      (∀ p ∈ priority, p.1 ∈ [Button.start, .select, .a, .b, .x, .y, .l]) →
      selectTableBy priority S = selectTableBy priority S' :=
    fun _ hlist => selectTableBy_congr fun p hp => hagree p.1 (hlist p hp)
  exact ⟨hby params.modePriority (by decide), hby⟩

/-- A priority list is tested from its head on (R121). -/
theorem selectTableBy_cons (btn : Button) (n : BitVec 3) (priority : List (Button × BitVec 3)) (S : Snapshot) :
    selectTableBy ((btn, n) :: priority) S = if S.getLsbD btn.bit then n else selectTableBy priority S := by
  rw [selectTableBy, List.find?_cons]
  cases h : pressed S btn.bit <;> rw [pressed] at h <;> rw [h] <;> rfl

/-- Settles O39: `MODE_PRIORITY`, tested from its head on. -/
theorem selectTablePriority : Obligations.SelectTablePriority := by
  intro S
  simp only [selectTable, params, selectTableBy_cons]
  rfl

end Sys2Proof.Machine
end

section
/-! PROOFS. One event at a time: the registers after reset, what each instruction does and leaves alone
(`42_responder.md`, `70_reset_and_hazards.md` R200), and which event a step takes (`60_exceptions.md` R184-R186). -/

namespace Sys2Proof.Machine

/-! ### Values after reset and parameters -/

/-- Settles O2: each value stands in the definition of the state after reset. -/
theorem resetStateValues : Obligations.ResetStateValues :=
  ⟨rfl, rfl, rfl, rfl, rfl, rfl, fun _ hc => Vector.getElem_replicate hc, rfl, rfl, rfl, rfl, rfl, rfl, rfl, rfl, rfl⟩

/-- Settles O3: each value stands in the definition of its constant. -/
theorem parameterValues : Obligations.ParameterValues := by
  unfold Obligations.ParameterValues
  decide

/-- Settles O1: POR writes every register; the edge before it has moved the line that POR reads. -/
theorem powerOnResetRegisters : Obligations.PowerOnResetRegisters := by
  intro s
  refine ⟨rfl, fun t ht => ?_, rfl, ⟨_, rfl, rfl⟩, ⟨_, rfl, rfl⟩⟩
  cases ht
  rfl

/-! ### The RX instructions -/

/-- An accepted byte runs the instruction of its row (R73). -/
theorem deliver_rx_of_row {s : State} {b : Byte} {i : Instr} (hrx : s.rxEnabled = true)
    (hrow : decodeByte s.st b = i) : deliver (.rx b) s = exec i s := by
  rw [deliver_rx_enabled b hrx, hrow]

/-- Settles O8: the exact row of IDLE (R142). -/
theorem rxIdleStartAnswersIdentity : Obligations.RxIdleStartAnswersIdentity := by
  refine fun s b => ⟨rfl, fun hrx hst hb => deliver_rx_of_row hrx ?_⟩
  rw [hst, hb]
  rfl

/-- Settles O9: the catch-all row of IDLE (R143). -/
theorem rxIdleOtherGoesPassive : Obligations.RxIdleOtherGoesPassive := by
  refine fun s b => ⟨rfl, fun hrx hst hb => deliver_rx_of_row hrx ?_⟩
  rw [hst]
  exact if_neg hb

/-- Settles O10: the exact row of READY (R144). -/
theorem rxReadyReadAnswersDataStart : Obligations.RxReadyReadAnswersDataStart := by
  refine fun s b => ⟨rfl, fun hrx hst hb => deliver_rx_of_row hrx ?_⟩
  rw [hst, hb]
  rfl

/-- Settles O11: the catch-all row of READY (R145). -/
theorem rxReadyOtherIsIgnored : Obligations.RxReadyOtherIsIgnored := by
  refine fun s b => ⟨rfl, fun hrx hst hb => deliver_rx_of_row hrx ?_⟩
  rw [hst]
  exact if_neg hb

/-- Settles O12: the one row of SEND_LO (R146). -/
theorem rxSendLoSendsLowByte : Obligations.RxSendLoSendsLowByte :=
  fun _ _ => ⟨rfl, fun hrx hst => deliver_rx_of_row hrx (by rw [hst]; rfl)⟩

/-- Settles O13: the one row of SEND_HI (R147). -/
theorem rxSendHiSendsHighByteAndBranches : Obligations.RxSendHiSendsHighByteAndBranches :=
  fun _ _ => ⟨rfl, fun hrx hst => deliver_rx_of_row hrx (by rw [hst]; rfl)⟩

/-- What R36 lists for STICKS: one to four stick bytes are left. -/
theorem State.Inv.stickRem_pos {s : State} (h : s.Inv) (hst : s.st = .sticks) : 1 ≤ s.stickRem.toNat := by
  have hfit := h.counters
  simp only [State.CountersFit, hst] at hfit
  obtain ⟨hpos, -⟩ := hfit
  exact hpos

/-- What R36 lists for ANALOG: at most eleven channels are sent. -/
theorem State.Inv.abSent_le {s : State} (h : s.Inv) (hst : s.st = .analog) : s.abSent.toNat ≤ 11 := by
  have hfit := h.counters
  simp only [State.CountersFit, hst] at hfit
  obtain ⟨-, hle, -⟩ := hfit
  exact hle

/-- Settles O14: the one row of STICKS (R148), in which a stick byte is still left under the invariant. -/
theorem rxStickSendsNeutralAndCountsDown : Obligations.RxStickSendsNeutralAndCountsDown :=
  fun _ _ => ⟨rfl, fun hrx hst => deliver_rx_of_row hrx (by rw [hst]; rfl),
    fun hs hst => stickRem_pred (hs.stickRem_pos hst)⟩

/-- A channel read within the array (R52). -/
theorem analogAt_eq_getElem (an : AnalogArray) {c : Nat} (hc : c < 12) : analogAt an c = an[c] := by
  rw [analogAt, Vector.getElem?_eq_getElem hc, Option.getD_some]

/-- Settles O15: the one row of ANALOG (R149), in which a channel is still left under the invariant. -/
theorem rxAnalogSendsChannelAndCountsUp : Obligations.RxAnalogSendsChannelAndCountsUp := by
  intro s b
  refine ⟨⟨analogAt s.analog s.abSent.toNat, rfl, fun h => analogAt_eq_getElem _ h⟩,
    fun hrx hst => deliver_rx_of_row hrx (by rw [hst]; rfl), fun hs hst => ?_⟩
  have hle := hs.abSent_le hst
  exact ⟨hle, abSent_succ hle⟩

/-- Settles O16: the one row of DONE and of PASSIVE (R150, R151). -/
theorem rxDoneAndPassiveStaySilent : Obligations.RxDoneAndPassiveStaySilent :=
  fun _ _ => ⟨rfl, rfl, fun hrx hst => deliver_rx_of_row hrx (by rw [hst]; rfl),
    fun hrx hst => deliver_rx_of_row hrx (by rw [hst]; rfl)⟩

/-- No row for accepted bytes is RX_DISABLED (R73). -/
theorem decodeByte_ne_rxDisabled (st : SeqState) (b : Byte) (k : Key) : decodeByte st b ≠ .rxDisabled k := by
  cases st with
  | idle | ready => rw [decodeByte]; split <;> simp
  | _ => simp [decodeByte]

/-- The interface guard is closed before mode selection and while deselected (R182). -/
theorem State.rxEnabled_eq_false_iff (s : State) : s.rxEnabled = false ↔ s.cfgDone = false ∨ s.att = false := by
  rw [State.rxEnabled, Bool.and_eq_false_iff]

/-- Row 1 of R73 takes exactly the bytes that meet a closed guard. -/
theorem decode_sample_rx_eq_rxDisabled_iff (s : State) (b : Byte) :
    (∃ k, decode (s.sample (.rx b)) = .rxDisabled k) ↔ s.rxEnabled = false := by
  cases hrx : s.rxEnabled
  · simp [State.sample, hrx, decode]
  · simp [State.sample, hrx, decodeByte_ne_rxDisabled]

/-- Behind a closed guard the session group has its reset values (R155). -/
theorem State.Inv.sessionHeld {s : State} (h : s.Inv) (hclosed : s.cfgDone = false ∨ s.att = false) : s.SessionHeld :=
  hclosed.elim h.unconfigured h.deselected

/-- Settles O7: row 1 of R73 and, behind its guard, the session group at its reset values. -/
theorem rxDisabledChangesNothing : Obligations.RxDisabledChangesNothing := by
  intro s
  refine ⟨fun _ => rfl, fun b => ?_, fun hs hclosed => ?_, fun b hs hcfg hatt => ?_⟩
  · rw [decode_sample_rx_eq_rxDisabled_iff, State.rxEnabled_eq_false_iff]
  · obtain ⟨-, -, -, htx, hack⟩ := hs.sessionHeld hclosed
    exact ⟨htx, by rw [State.ackN, hack]; rfl⟩
  · obtain ⟨-, -, -, htx, -⟩ := hs.unconfigured hcfg
    refine ⟨_, deliver_rx_disabled b ((State.rxEnabled_eq_false_iff s).mpr (.inl hcfg)), rfl, ?_⟩
    rw [State.unanswered_wire, hatt, if_pos rfl, htx]

/-! ### The other instructions -/

/-- Settles O17: SELECT writes ATT; where it is set already, writing it again changes nothing (R154). -/
theorem selectSetsAttention : Obligations.SelectSetsAttention := by
  refine fun s => ⟨rfl, rfl, fun hatt => ?_⟩
  calc exec .select s
      = .next { s.silent with att := true } := rfl
    _ = .next s.silent := by rw [← hatt]; rfl

/-- Settles O18: DESELECT writes the session group and ATT, which under the invariant have these values already while the
core is deselected (R153, R155). -/
theorem deselectResetsSession : Obligations.DeselectResetsSession := by
  refine fun s => ⟨rfl, fun t ht => ?_, rfl, fun hs hatt => ?_⟩
  · cases ht
    rfl
  · obtain ⟨hst, hstick, hsent, htx, hack⟩ := hs.deselected hatt
    calc exec .deselect s
        = .next { s.silent with
            st := .idle, stickRem := 4#3, abSent := 0#4, txbuf := params.neutral, ack := .idle, att := false } := rfl
      _ = .next s.silent := by rw [← hst, ← hstick, ← hsent, ← htx, ← hack, ← hatt]; rfl

/-- The active table is the ROM's, for the legal values of `TSEL` (R27, R33). -/
theorem tableOf_eq_getElem (rom : Rom) {n : BitVec 3} (h : 1 ≤ n.toNat) : tableOf rom n = rom[n.toNat - 1] := by
  have hne : n ≠ 0#3 := by bv_omega
  rw [tableOf, if_neg hne, Vector.getElem?_eq_getElem (by omega), Option.getD_some]

/-- Settles O19: PUBLISH writes the two output buffers (R103). -/
theorem publishInstallsTranslation : Obligations.PublishInstallsTranslation :=
  fun s raw => ⟨rfl, fun h => tableOf_eq_getElem s.tables h, fun hcfg => deliver_snap_publish raw hcfg⟩

/-- Settles O20: MODESEL writes the configuration group and the channels (R120). -/
theorem modeselConfigures : Obligations.ModeselConfigures :=
  fun _ raw => ⟨rfl, fun hcfg => deliver_snap_modesel raw hcfg⟩

/-! ### The step -/

/-- The line after an event has arrived, written out (R31). -/
theorem arrive_attnPin (e : Event) (level : Bool) :
    (Instant.ofEvent e).attn.getD level = if e = .select then true else if e = .deselect then false else level := by
  cases e with
  | _ => rfl

/-- A step with a single event at the head of the input executes that event, decoded in the state before it. -/
theorem step_of_input_ofEvent {s : State} {e : Event} {rest : List Instant}
    (h : s.input = Instant.ofEvent e :: rest) :
    step s = exec (decode (s.sample e))
      { s.elapse with attnPin := (Instant.ofEvent e).attn.getD s.attnPin, input := rest } := by
  rw [step_of_takeEvent (takeEvent_ofEvent (s := s.elapse) h)]
  cases e <;> rfl

/-- Settles O25: what a step takes is executed as it is decoded, and with nothing pending nothing is taken. -/
theorem stepRunsDecodedInstruction : Obligations.StepRunsDecodedInstruction := by
  refine ⟨fun s t e h => step_of_takeEvent h, fun s e rest h => ?_, fun _ => rfl, fun s h => ?_⟩
  · rw [step_of_input_ofEvent h, arrive_attnPin]
  · rw [step, takeEvent_nil (s := s.elapse) h]
    rfl

/-- Settles O29: a key word comes as a byte in the state of its key, a snapshot word as a first snapshot, and either
decodes there as the word does. -/
theorem tableWordRunsAtFetch : Obligations.TableWordRunsAtFetch := by
  intro s nbits w i hi
  unfold decodeTableWord at hi
  unfold State.withFetchWord
  split at hi
  · next hkey =>
    cases hi
    rw [if_pos hkey, step_of_input_ofEvent rfl]
    simp only [State.sample, State.rxEnabled, Bool.and_self, Key.eq_keyOf]
    rfl
  · next hkey =>
    split at hi
    · next hsnap =>
      cases hi
      rw [if_neg hkey, if_pos hsnap, step_of_input_ofEvent rfl]
      rfl
    · cases hi

/-- A step whose first instant holds an event executes it, the rest of the instant staying at the head of the input. -/
theorem step_of_nextEvent {s : State} {i left : Instant} {rest : List Instant} {e : Event} (h : s.input = i :: rest)
    (hnext : nextEvent i (Config.selectFirst (s.tick + 1)) = (some e, left)) :
    step s = exec (decode (s.sample e))
      { s.elapse with
        attnPin := i.attn.getD s.attnPin, input := if left = Instant.quiet then rest else left :: rest } := by
  have htake : s.elapse.takeEvent
      = ({ s.elapse with
           attnPin := i.attn.getD s.attnPin, input := if left = Instant.quiet then rest else left :: rest }, some e) := by
    simp only [State.takeEvent, State.elapse_input, h, State.elapse_tick, hnext, State.elapse_attnPin]
  rw [step_of_takeEvent htake]
  cases e <;> rfl

/-- Settles O44: the arbitration of the instant chooses the event, and what it leaves stays pending (R184-R186). -/
theorem coincidentEventsFollowPriorities : Obligations.CoincidentEventsFollowPriorities := by
  refine ⟨fun s i rest h hpor => ?_, fun s b sn rest h => ?_, fun s b raw rest h => step_of_nextEvent h rfl,
    fun s b sn rest h => ?_⟩
  · exact step_of_nextEvent h (by rw [nextEvent, if_pos hpor])
  · rw [step_of_nextEvent h rfl]
    cases sn <;> rfl
  · cases hfirst : Config.selectFirst (s.tick + 1)
    · exact .inr (step_of_nextEvent h (by rw [hfirst]; rfl))
    · have hselect : nextEvent { por := false, attn := some true, rx := some b, snap := sn }
          (Config.selectFirst (s.tick + 1)) = (some .select, { Instant.quiet with rx := some b, snap := sn }) := by
        rw [hfirst]
        rfl
      exact .inl (step_of_nextEvent h hselect)

end Sys2Proof.Machine
end

section
/-! PROOFS. Which events write which registers (`10_state.md` section 7), the acknowledge one-shot and the counters
(`42_responder.md` sections 3 and 5), and what holds along runs that leave out some events. -/

namespace Sys2Proof

/-- The acknowledge set (`42_responder.md` R157). -/
def Instr.Acknowledging (i : Instr) : Prop :=
  i = .rxIdleStart ∨ i = .rxReadyRead ∨ (∃ b, i = .rxSendLo b) ∨ (∃ b, i = .rxSendHi b) ∨ (∃ b, i = .rxStick b)
    ∨ ∃ b, i = .rxAnalog b

end Sys2Proof

namespace Sys2Proof.Machine

/-! ### The access table (R35) -/

theorem exec_btnmask_eq_or {i : Instr} {s t : State} (h : exec i s = .next t) :
    t.btnmask = s.btnmask ∨ i = .por ∨ ∃ raw, i = .snapPublish raw := by
  cases i with
  | por => exact .inr (.inl rfl)
  | snapPublish raw => exact .inr (.inr ⟨raw, rfl⟩)
  | _ => cases h; exact .inl rfl

theorem exec_analog_eq_or {i : Instr} {s t : State} (h : exec i s = .next t) :
    t.analog = s.analog ∨ i = .por ∨ (∃ raw, i = .snapModesel raw) ∨ ∃ raw, i = .snapPublish raw := by
  cases i with
  | por => exact .inr (.inl rfl)
  | snapModesel raw => exact .inr (.inr (.inl ⟨raw, rfl⟩))
  | snapPublish raw => exact .inr (.inr (.inr ⟨raw, rfl⟩))
  | _ => cases h; exact .inl rfl

theorem exec_att_eq_or {i : Instr} {s t : State} (h : exec i s = .next t) :
    t.att = s.att ∨ i = .por ∨ i = .select ∨ i = .deselect := by
  cases i with
  | por => exact .inr (.inl rfl)
  | select => exact .inr (.inr (.inl rfl))
  | deselect => exact .inr (.inr (.inr rfl))
  | _ => cases h; exact .inl rfl

theorem exec_stickRem_eq_or {i : Instr} {s t : State} (h : exec i s = .next t) :
    t.stickRem = s.stickRem ∨ i = .por ∨ i = .deselect ∨ ∃ b, i = .rxStick b := by
  cases i with
  | por => exact .inr (.inl rfl)
  | deselect => exact .inr (.inr (.inl rfl))
  | rxStick b => exact .inr (.inr (.inr ⟨b, rfl⟩))
  | _ => cases h; exact .inl rfl

theorem exec_abSent_eq_or {i : Instr} {s t : State} (h : exec i s = .next t) :
    t.abSent = s.abSent ∨ i = .por ∨ i = .deselect ∨ ∃ b, i = .rxAnalog b := by
  cases i with
  | por => exact .inr (.inl rfl)
  | deselect => exact .inr (.inr (.inl rfl))
  | rxAnalog b => exact .inr (.inr (.inr ⟨b, rfl⟩))
  | _ => cases h; exact .inl rfl

/-- The agents other than the responder's bytes and resets leave the session group alone (`60_exceptions.md` R188). -/
theorem exec_keeps_session {i : Instr} {s t : State} (h : exec i s = .next t)
    (hi : i = .select ∨ (∃ k, i = .rxDisabled k) ∨ (∃ raw, i = .snapModesel raw) ∨ ∃ raw, i = .snapPublish raw) :
    t.st = s.st ∧ t.stickRem = s.stickRem ∧ t.abSent = s.abSent ∧ t.txbuf = s.txbuf ∧ t.ack = s.ack
      ∧ t.emit = none := by
  obtain rfl | ⟨k, rfl⟩ | ⟨raw, rfl⟩ | ⟨raw, rfl⟩ := hi <;> cases h <;> exact ⟨rfl, rfl, rfl, rfl, rfl, rfl⟩

/-- No instruction writes the ROM or the inputs of the core. -/
theorem exec_keeps_inputs {i : Instr} {s t : State} (h : exec i s = .next t) :
    t.attnPin = s.attnPin ∧ t.input = s.input := by
  cases i with
  | _ => cases h; exact ⟨rfl, rfl⟩

/-- Settles O42: the access table, one register at a time. -/
theorem registersWrittenOnlyByTheirEvents : Obligations.RegistersWrittenOnlyByTheirEvents := by
  intro i s t h
  refine ⟨(exec_btnmask_eq_or h).resolve_left, (exec_analog_eq_or h).resolve_left, fun hne => ?_,
    (exec_att_eq_or h).resolve_left, (exec_stickRem_eq_or h).resolve_left, (exec_abSent_eq_or h).resolve_left,
    exec_keeps_session h, exec_keeps_tables h, exec_keeps_inputs h⟩
  by_contra hother
  obtain ⟨hpor, hmodesel⟩ := not_or.mp hother
  obtain ⟨htsel, hext, hcfg⟩ := exec_keeps_config h (fun raw hi => hmodesel ⟨raw, hi⟩) hpor
  obtain hne | hne | hne := hne
  · exact hne htsel
  · exact hne hext
  · exact hne hcfg

/-! ### Attention edges and snapshots -/

/-- Settles O43: an edge and a snapshot write different registers, and the edge leaves `CFG_DONE`, which routes the
snapshot. -/
theorem attentionAndSnapshotsCommute : Obligations.AttentionAndSnapshotsCommute := by
  rintro s raw e (rfl | rfl)
  · have hswap : s.selected.snapped raw = (s.snapped raw).selected := by
      unfold State.snapped
      cases hcfg : s.cfgDone <;> simp [State.selected, hcfg] <;> rfl
    rw [runEvents_cons (deliver_select_next s), runEvents_cons (deliver_snap_next raw _), hswap,
      runEvents_cons (deliver_snap_next raw s), runEvents_cons (deliver_select_next _)]
  · have hswap : s.deselected.snapped raw = (s.snapped raw).deselected := by
      unfold State.snapped
      cases hcfg : s.cfgDone <;> simp [State.deselected, hcfg] <;> rfl
    rw [runEvents_cons (deliver_deselect_next s), runEvents_cons (deliver_snap_next raw _), hswap,
      runEvents_cons (deliver_snap_next raw s), runEvents_cons (deliver_deselect_next _)]

/-! ### The acknowledge set and the one-shot -/

/-- An instruction emits nothing, and then leaves the one-shot or resets it, or it commits one response, acknowledged
exactly where the instruction is in the acknowledge set (R140, R157). -/
theorem exec_emit_cases {i : Instr} {s t : State} (h : exec i s = .next t) :
    (t.emit = none ∧ (t.ack = s.ack ∨ t.ack = .idle) ∧ ¬ i.Acknowledging)
    ∨ ∃ m, t.emit = some m ∧ t.txbuf = m.r ∧ t.ack = ackAfter m.a ∧ (m.a = true ↔ i.Acknowledging) := by
  cases i with
  | rxDisabled | snapModesel | snapPublish | select =>
    cases h
    exact .inl ⟨rfl, .inl rfl, by simp [Instr.Acknowledging]⟩
  | por | deselect =>
    cases h
    exact .inl ⟨rfl, .inr rfl, by simp [Instr.Acknowledging]⟩
  | rxIdleOther | rxReadyOther | rxDone | rxPassive =>
    cases h
    exact .inr ⟨_, rfl, rfl, rfl, by simp [Instr.Acknowledging]⟩
  | rxIdleStart | rxReadyRead | rxSendLo | rxSendHi | rxStick | rxAnalog =>
    cases h
    exact .inr ⟨_, rfl, rfl, rfl, by simp [Instr.Acknowledging]⟩

/-- Settles O45: the acknowledge set by the instruction, TXBUF and the one-shot by the commit. -/
theorem acknowledgingInstructions : Obligations.AcknowledgingInstructions := by
  intro i s
  obtain ⟨t, ht⟩ := exec_next i s
  refine ⟨t, ht, ?_⟩
  obtain ⟨hemit, -, hnot⟩ | ⟨m, hemit, htx, hack, hset⟩ := exec_emit_cases ht
  · rw [hemit]
    exact ⟨⟨fun ⟨r, hr⟩ => (nomatch hr), fun hin => absurd hin hnot⟩, fun m hm => nomatch hm⟩
  · rw [hemit]
    refine ⟨Iff.trans ⟨?_, fun ha => ⟨m.r, by rw [← ha]⟩⟩ hset, fun m' hm' => ?_⟩
    · rintro ⟨r, hr⟩
      cases hr
      rfl
    · cases hm'
      exact ⟨htx, fun ha => by rw [hack, ha]; rfl, fun ha => by rw [State.ackN, hack, ha]; rfl⟩

/-- A step emits nothing, and then the one-shot has gone on or was reset, or it sets the one-shot by the acknowledge of
what it emitted. -/
theorem step_ack_cases {s t : State} (h : step s = .next t) :
    (t.emit = none ∧ (t.ack = s.ack.after (Config.ackProgress s.tick) ∨ t.ack = .idle))
    ∨ ∃ m, t.emit = some m ∧ t.ack = ackAfter m.a := by
  have hwait : s.elapse.takeEvent.1.ack = s.ack.after (Config.ackProgress s.tick) := by rw [takeEvent_frame]; rfl
  obtain ⟨-, rfl⟩ | ⟨e, -, he⟩ := step_cases h
  · exact .inl ⟨rfl, .inl hwait⟩
  · have harrive : (s.elapse.takeEvent.1.arrive e).ack = s.elapse.takeEvent.1.ack := rfl
    obtain ⟨hemit, hack, -⟩ | ⟨m, hemit, -, hack, -⟩ := exec_emit_cases he
    · rw [harrive, hwait] at hack
      exact .inl ⟨hemit, hack⟩
    · exact .inr ⟨m, hemit, hack⟩

/-- Time does not start a pulse (R190). -/
theorem AckPhase.after_eq_delay {p : AckPhase} {n : Nat} (h : p.after n = .delay) : p = .delay := by
  cases p with
  | idle => exact h
  | delay => rfl
  | low => cases n <;> cases h

/-- After an emit the line is released until the delay is over (R152). -/
theorem ackAfter_ne_low (a : Bool) : ackAfter a ≠ .low := by
  cases a <;> simp

/-- Settles O46: an emit sets the one-shot by its acknowledge; without one, time never starts a pulse. -/
theorem acknowledgePulseOnlyAfterAcknowledge : Obligations.AcknowledgePulseOnlyAfterAcknowledge := by
  intro s t h
  simp only [State.ackN_eq_true_iff]
  obtain ⟨hemit, hack⟩ | ⟨m, hemit, hack⟩ := step_ack_cases h
  · refine ⟨fun hdelay => .inr ⟨?_, hemit⟩, fun hidle => ?_, fun m hm => ?_, fun m hm => ?_⟩
    · obtain hack | hack := hack <;> rw [hdelay] at hack
      · exact AckPhase.after_eq_delay hack.symm
      · cases hack
    · obtain hack | hack := hack <;> rw [hack]
      · rw [hidle]; simp [AckPhase.after]
      · simp
    · rw [hemit] at hm; cases hm
    · rw [hemit] at hm; cases hm
  · rw [hack]
    refine ⟨fun hdelay => .inl ⟨m, hemit, ?_⟩, fun _ => ackAfter_ne_low _, fun _ _ => ackAfter_ne_low _,
      fun m' hm' ha => ?_⟩
    · cases ha : m.a
      · rw [ha] at hdelay; cases hdelay
      · rfl
    · rw [hemit] at hm'
      cases hm'
      rw [ha]
      rfl

/-- An accepted byte counts at most one of the counters, in that counter's state (R148, R149). -/
theorem counters_of_deliver_rx {s t : State} {b : Byte} (hrx : s.rxEnabled = true)
    (ht : deliver (.rx b) s = .next t) :
    (t.stickRem = s.stickRem ∨ (s.st = .sticks ∧ t.stickRem = s.stickRem - 1#3))
    ∧ (t.abSent = s.abSent ∨ (s.st = .analog ∧ t.abSent = s.abSent + 1#4)) := by
  obtain ⟨-, -, rfl⟩ | ⟨-, -, rfl⟩ | ⟨-, -, rfl⟩ | ⟨-, -, rfl⟩ | ⟨-, rfl⟩ | ⟨-, rfl⟩ | ⟨hs, rfl⟩ | ⟨hs, rfl⟩ | ⟨-, rfl⟩ :=
    deliver_rx_cases hrx ht
  · exact ⟨.inl rfl, .inl rfl⟩
  · exact ⟨.inl rfl, .inl rfl⟩
  · exact ⟨.inl rfl, .inl rfl⟩
  · exact ⟨.inl rfl, .inl rfl⟩
  · exact ⟨.inl rfl, .inl rfl⟩
  · exact ⟨.inl rfl, .inl rfl⟩
  · exact ⟨.inr ⟨hs, rfl⟩, .inl rfl⟩
  · exact ⟨.inl rfl, .inr ⟨hs, rfl⟩⟩
  · exact ⟨.inl rfl, .inl rfl⟩

/-- Settles O47: a byte in STICKS or ANALOG counts once and within the range R36 gives, and DESELECT and POR reset. -/
theorem counterLaws : Obligations.CounterLaws := by
  intro s t e hs ht
  obtain ⟨rfl, hpor⟩ | ⟨raw, -, -, hsel⟩ | ⟨raw, -, -, rfl⟩ | ⟨-, rfl⟩ | ⟨rfl, rfl⟩ | ⟨b, -, -, rfl⟩ | ⟨b, rfl, hrx, hb⟩ :=
    deliver_cases ht
  · cases hpor
    exact ⟨.inr (.inr ⟨.inr rfl, rfl⟩), .inr (.inr ⟨.inr rfl, rfl⟩)⟩
  · cases hsel
    exact ⟨.inl rfl, .inl rfl⟩
  · exact ⟨.inl rfl, .inl rfl⟩
  · exact ⟨.inl rfl, .inl rfl⟩
  · exact ⟨.inr (.inr ⟨.inl rfl, rfl⟩), .inr (.inr ⟨.inl rfl, rfl⟩)⟩
  · exact ⟨.inl rfl, .inl rfl⟩
  · obtain ⟨hstick, hsent⟩ := counters_of_deliver_rx hrx hb
    refine ⟨hstick.imp_right fun ⟨hst, heq⟩ => .inl ⟨hst, ⟨b, rfl⟩, ?_⟩,
      hsent.imp_right fun ⟨hst, heq⟩ => .inl ⟨hst, ⟨b, rfl⟩, ?_⟩⟩ <;> rw [heq]
    · exact (stickRem_pred (hs.stickRem_pos hst)).symm
    · have hle := hs.abSent_le hst
      have hsucc := abSent_succ hle
      exact ⟨hsucc, by omega⟩

/-! ### Runs that leave out some events -/

/-- Where every allowed event keeps `P` and, from `P`, emits only what meets `Q`, a run of allowed events emits only what
meets `Q`. -/
theorem forall_emits_of_keeps {P : State → Prop} {Q : Emit → Prop} {allowed : Event → Prop}
    (hkeeps : ∀ {s t : State} {e : Event}, allowed e → deliver e s = .next t → P s → P t)
    (hemit : ∀ {s t : State} {e : Event}, allowed e → deliver e s = .next t → P s → ∀ m ∈ t.emit, Q m)
    {s : State} {es : List Event} (hes : ∀ e ∈ es, allowed e) (hs : P s) : ∀ m ∈ emits s es, Q m := by
  induction es generalizing s with
  | nil => simp
  | cons e es ih =>
    obtain ⟨t, ht⟩ := deliver_next e s
    obtain ⟨he, hes⟩ := List.forall_mem_cons.mp hes
    rw [emits_cons ht, List.forall_mem_append]
    exact ⟨fun m hm => hemit he ht hs m (Option.mem_toList.mp hm), ih hes (hkeeps he ht hs)⟩

/-- An event other than POR and a snapshot leaves the output buffers alone (R188). -/
theorem deliver_keeps_buffers {s t : State} {e : Event} (hpor : e ≠ .por) (hsnap : ∀ raw, e ≠ .snap raw)
    (ht : deliver e s = .next t) : t.btnmask = s.btnmask ∧ t.analog = s.analog := by
  obtain ⟨he, -⟩ | ⟨raw, he, -⟩ | ⟨raw, he, -⟩ | ⟨-, rfl⟩ | ⟨-, rfl⟩ | ⟨b, -, -, rfl⟩ | ⟨b, -, hrx, hb⟩ :=
    deliver_cases ht
  · exact absurd he hpor
  · exact absurd he (hsnap raw)
  · exact absurd he (hsnap raw)
  · exact ⟨rfl, rfl⟩
  · exact ⟨rfl, rfl⟩
  · exact ⟨rfl, rfl⟩
  · obtain ⟨r, a, heq⟩ := exists_accept_of_deliver_rx hrx hb
    rw [heq]
    exact ⟨rfl, rfl⟩

/-- A list without snapshots has none among its events. -/
theorem ne_snap_of_snapshots_eq_nil {es : List Event} (h : snapshots es = []) {e : Event} (he : e ∈ es)
    (raw : Snapshot) : e ≠ .snap raw := by
  rintro rfl
  exact Option.some_ne_none _ (List.filterMap_eq_nil_iff.mp h _ he)

/-- A run without snapshots and POR leaves the output buffers alone. -/
theorem runEvents_keeps_buffers {s u : State} {es : List Event} (hsnap : snapshots es = []) (hpor : Event.por ∉ es)
    (hrun : runEvents s es = some u) : u.btnmask = s.btnmask ∧ u.analog = s.analog := by
  refine runEvents_keeps (P := fun x => x.btnmask = s.btnmask ∧ x.analog = s.analog)
    (allowed := fun e => e ≠ .por ∧ ∀ raw, e ≠ .snap raw) (fun he ht hx => ?_)
    (fun e he => ⟨ne_of_mem_of_not_mem he hpor, ne_snap_of_snapshots_eq_nil hsnap he⟩) hrun ⟨rfl, rfl⟩
  obtain ⟨hpor, hsnap⟩ := he
  obtain ⟨hmask, hanalog⟩ := hx
  obtain ⟨hmask', hanalog'⟩ := deliver_keeps_buffers hpor hsnap ht
  exact ⟨hmask'.trans hmask, hanalog'.trans hanalog⟩

/-- Settles O24: POR and the mode-select snapshot write every register in question, and none of the later events does. -/
theorem windowBeforeFirstPublish : Obligations.WindowBeforeFirstPublish := by
  intro s raw es hsnap hpor
  obtain ⟨u, hu⟩ := runEvents_next (s.poweredOn.configured raw) es
  obtain ⟨hmask, hanalog⟩ := runEvents_keeps_buffers hsnap hpor hu
  have hsame : (s.poweredOn.configured raw).SameConfig u := runEvents_keeps_config rfl hpor hu
  refine ⟨u, ?_, hsame.cfgDone, hmask, fun c hc => ?_, hsame.tsel, hsame.ext⟩
  · rw [runEvents_cons (deliver_por_next s), runEvents_cons (deliver_snap_configured raw rfl), hu]
  · simp only [hanalog]
    exact Vector.getElem_replicate hc

/-! ### DONE and PASSIVE -/

/-- In a terminal state only DESELECT and POR move the sequencer, and only silence is answered (R150, R151). -/
theorem deliver_of_done_or_passive {s t : State} {e : Event} (hs : s.st = .done ∨ s.st = .passive)
    (hdes : e ≠ .deselect) (hpor : e ≠ .por) (ht : deliver e s = .next t) :
    t.st = s.st ∧ ∀ m ∈ t.emit, m = { r := params.neutral, a := false } := by
  obtain ⟨he, -⟩ | ⟨raw, -, -, hsel⟩ | ⟨raw, -, -, rfl⟩ | ⟨-, rfl⟩ | ⟨he, -⟩ | ⟨b, -, -, rfl⟩ | ⟨b, -, hrx, hb⟩ :=
    deliver_cases ht
  · exact absurd he hpor
  · cases hsel
    exact ⟨rfl, fun m hm => nomatch hm⟩
  · exact ⟨rfl, fun m hm => nomatch hm⟩
  · exact ⟨rfl, fun m hm => nomatch hm⟩
  · exact absurd he hdes
  · exact ⟨rfl, fun m hm => nomatch hm⟩
  · rw [deliver_rx_of_done_or_passive b hrx hs] at hb
    cases hb
    exact ⟨rfl, fun m hm => (Option.some.inj hm).symm⟩

/-- Settles O49: a run without DESELECT and POR does not leave a terminal state. -/
theorem silentStatesHoldUntilDeselect : Obligations.SilentStatesHoldUntilDeselect := by
  intro s es hs hdes hpor
  have hes : ∀ e ∈ es, e ≠ .deselect ∧ e ≠ .por :=
    fun e he => ⟨ne_of_mem_of_not_mem he hdes, ne_of_mem_of_not_mem he hpor⟩
  have hkeeps : ∀ {x y : State} {e : Event}, e ≠ .deselect ∧ e ≠ .por → deliver e x = .next y → x.st = s.st →
      y.st = s.st := fun ⟨hd, hp⟩ hy hx => (deliver_of_done_or_passive (by rwa [hx]) hd hp hy).1.trans hx
  obtain ⟨u, hu⟩ := runEvents_next s es
  refine ⟨u, hu, runEvents_keeps (P := fun x => x.st = s.st) hkeeps hes hu rfl,
    forall_emits_of_keeps (P := fun x => x.st = s.st) hkeeps (fun ⟨hd, hp⟩ hy hx => ?_) hes rfl⟩
  exact (deliver_of_done_or_passive (by rwa [hx]) hd hp hy).2

/-! ### The deselected core -/

/-- A deselected core, with the session group at its reset values (R155). -/
structure State.Resting (s : State) : Prop where
  att : s.att = false
  held : s.SessionHeld

/-- A resting core is left only by SELECT and POR, and answers no byte (R155). -/
theorem State.Resting.deliver {s t : State} {e : Event} (hs : s.Resting) (hsel : e ≠ .select) (hpor : e ≠ .por)
    (ht : deliver e s = .next t) : t.Resting ∧ t.emit = none := by
  obtain ⟨he, -⟩ | ⟨raw, -, -, hmode⟩ | ⟨raw, -, -, rfl⟩ | ⟨he, -⟩ | ⟨-, rfl⟩ | ⟨b, -, -, rfl⟩ | ⟨b, -, hrx, -⟩ :=
    deliver_cases ht
  · exact absurd he hpor
  · cases hmode
    exact ⟨⟨hs.att, hs.held⟩, rfl⟩
  · exact ⟨⟨hs.att, hs.held⟩, rfl⟩
  · exact absurd he hsel
  · exact ⟨⟨rfl, rfl, rfl, rfl, rfl, rfl⟩, rfl⟩
  · exact ⟨⟨hs.att, hs.held⟩, rfl⟩
  · rw [State.rxEnabled, hs.att, Bool.and_false] at hrx
    cases hrx

/-- Settles O50: DESELECT leaves a resting core, and the run keeps it. -/
theorem sessionHeldWhileDeselected : Obligations.SessionHeldWhileDeselected := by
  intro s es hsel hpor
  have hes : ∀ e ∈ es, e ≠ .select ∧ e ≠ .por :=
    fun e he => ⟨ne_of_mem_of_not_mem he hsel, ne_of_mem_of_not_mem he hpor⟩
  have hstart : s.deselected.Resting := ⟨rfl, rfl, rfl, rfl, rfl, rfl⟩
  have hkeeps : ∀ {x y : State} {e : Event}, e ≠ .select ∧ e ≠ .por → deliver e x = .next y → x.Resting → y.Resting :=
    fun ⟨hs, hp⟩ hy hx => (hx.deliver hs hp hy).1
  have hsilent : ∀ m ∈ emits s.deselected es, False :=
    forall_emits_of_keeps hkeeps (fun ⟨hs, hp⟩ hy hx m hm => by simp [(hx.deliver hs hp hy).2] at hm) hes hstart
  obtain ⟨u, hu⟩ := runEvents_next s.deselected es
  obtain ⟨hatt, hst, hstick, hsent, htx, hack⟩ := runEvents_keeps hkeeps hes hu hstart
  refine ⟨u, ?_, hatt, hst, hstick, hsent, htx, ?_, ?_⟩
  · rw [runEvents_cons (deliver_deselect_next s), hu]
  · rw [State.ackN, hack]
    rfl
  · rw [emits_cons (deliver_deselect_next s), List.eq_nil_iff_forall_not_mem.mpr hsilent]
    rfl

end Sys2Proof.Machine
end

section
/-! PROOFS. Runs of events: the script a stepping machine follows (`00_scope.md` R12), what a session shows
(`70_reset_and_hazards.md` R212), the bytes on the wire (`42_responder.md` R156), and the pseudo-events of a
script (`30_encoding.md` R88). -/

namespace Sys2Proof.Machine

/-! ### What no meaning reads -/

/-- A state without what no meaning reads: the one-shot, the pending input and the step counter. -/
def State.untimed (s : State) : State := { s with ack := .idle, input := [], tick := 0 }

/-- An instruction acts on the rest of the state alone. -/
theorem exec_untimed {i : Instr} {s t : State} (h : exec i s = .next t) :
    ∃ v, exec i s.untimed = .next v ∧ v.untimed = t.untimed := by
  cases i with
  | _ => cases h; exact ⟨_, rfl, rfl⟩

/-- An event acts on the rest of the state alone. -/
theorem exists_deliver_untimed {s t : State} {e : Event} (h : deliver e s = .next t) :
    ∃ v, deliver e s.untimed = .next v ∧ v.untimed = t.untimed := by
  obtain ⟨v, hv, hvt⟩ := exec_untimed h
  exact ⟨v, by rw [← hv]; cases e <;> rfl, hvt⟩

/-- States that agree on what meanings read are led by an event to states that agree on it. -/
theorem deliver_untimed {s s' t t' : State} {e : Event} (h : s.untimed = s'.untimed) (ht : deliver e s = .next t)
    (ht' : deliver e s' = .next t') : t.untimed = t'.untimed := by
  obtain ⟨v, hv, hvt⟩ := exists_deliver_untimed ht
  obtain ⟨v', hv', hvt'⟩ := exists_deliver_untimed ht'
  rw [h, hv'] at hv
  cases hv
  rw [← hvt, hvt']

/-- States that agree on what meanings read differ in the three other fields at most. -/
theorem eq_of_untimed_eq {s s' : State} (h : s.untimed = s'.untimed) :
    s = { s' with ack := s.ack, input := s.input, tick := s.tick } :=
  calc s = { s.untimed with ack := s.ack, input := s.input, tick := s.tick } := rfl
    _ = { s'.untimed with ack := s.ack, input := s.input, tick := s.tick } := by rw [h]
    _ = { s' with ack := s.ack, input := s.input, tick := s.tick } := rfl

/-! ### Stepping through a script -/

/-- The step counter is the step's, not the instruction's (notes/assumptions/27). -/
theorem exec_keeps_tick {i : Instr} {s t : State} (h : exec i s = .next t) : t.tick = s.tick := by
  cases i with
  | _ => cases h; rfl

/-- No event touches the pending input or the step counter. -/
theorem deliver_keeps_input_tick {s t : State} {e : Event} (h : deliver e s = .next t) :
    t.input = s.input ∧ t.tick = s.tick :=
  ⟨(exec_keeps_inputs (s := s.arrive e) h).2, exec_keeps_tick (s := s.arrive e) h⟩

/-- A step with a single event at the head of the input delivers that event, time having passed. -/
theorem step_eq_deliver {s : State} {e : Event} {rest : List Instant} (h : s.input = Instant.ofEvent e :: rest) :
    step s = deliver e { s.elapse with input := rest } := by
  rw [step_of_input_ofEvent h]
  cases e <;> rfl

/-- Steps over pending single events and the events themselves, from states that agree on what meanings read, lead to
states that agree on it. -/
theorem run_untimed {s s' : State} {es : List Event} (hin : s.input = es.map Instant.ofEvent)
    (hs : s.untimed = s'.untimed) :
    ∃ t u, Host.Core.run Sys2Proof.core es.length s = .next t ∧ runEvents s' es = some u
      ∧ t.untimed = u.untimed ∧ t.input = [] ∧ t.tick = s.tick + es.length := by
  induction es generalizing s s' with
  | nil => exact ⟨s, s', rfl, rfl, hs, hin, rfl⟩
  | cons e es ih =>
    obtain ⟨x, hx⟩ := deliver_next e { s.elapse with input := es.map Instant.ofEvent }
    obtain ⟨y, hy⟩ := deliver_next e s'
    obtain ⟨hinput, htick⟩ := deliver_keeps_input_tick hx
    have hstart : State.untimed { s.elapse with input := es.map Instant.ofEvent } = s'.untimed := hs
    have hxy : x.untimed = y.untimed := deliver_untimed hstart hx hy
    obtain ⟨t, u, hrun, hu, htu, hdone, hcount⟩ := ih hinput hxy
    refine ⟨t, u, ?_, ?_, htu, hdone, ?_⟩
    · rw [List.length_cons, core_run_succ ((step_eq_deliver hin).trans hx), hrun]
    · rw [runEvents_cons hy, hu]
    · rw [hcount, htick, List.length_cons, State.elapse_tick]
      omega

/-- Settles O58: stepping differs from delivering in the three fields no meaning reads. -/
theorem stepsFollowTheEventScript : Obligations.StepsFollowTheEventScript := by
  intro s es hin
  obtain ⟨t, u, hrun, hu, htu, hdone, hcount⟩ := run_untimed hin rfl
  refine ⟨t, u, hrun, hu, (eq_of_untimed_eq htu).trans ?_⟩
  rw [hdone, hcount]

/-! ### What a run shows -/

/-- What an event shows depends on the state by `CFG_DONE` alone. -/
theorem observed_congr {s s' : State} (h : s.cfgDone = s'.cfgDone) (e : Event) (m : Option Emit) :
    observed s e m = observed s' e m := by
  cases e with
  | snap raw => rw [observed, observed, h]
  | _ => rfl

/-- The session in progress depends on the state by `CFG_DONE` alone. -/
theorem sessionAfter_congr {s s' : State} (h : s.cfgDone = s'.cfgDone) (e : Event) (m : Option Emit)
    (cur : Option (List Observed)) : sessionAfter s e m cur = sessionAfter s' e m cur := by
  cases cur with
  | none => rfl
  | some o => rw [sessionAfter, sessionAfter, observed_congr h]

/-- From states that agree on what meanings read, a run shows the same. -/
theorem shows_eq_of_untimed_eq {s s' : State} (h : s.untimed = s'.untimed) (es : List Event)
    (cur : Option (List Observed)) :
    emits s es = emits s' es ∧ wires s es = wires s' es ∧ observeFrom s cur es = observeFrom s' cur es := by
  induction es generalizing s s' cur with
  | nil => exact ⟨rfl, rfl, rfl⟩
  | cons e es ih =>
    obtain ⟨t, ht⟩ := deliver_next e s
    obtain ⟨t', ht'⟩ := deliver_next e s'
    have htt' := deliver_untimed h ht ht'
    have hcfg : s.cfgDone = s'.cfgDone := show s.untimed.cfgDone = _ by rw [h]; rfl
    have hemit : t.emit = t'.emit := show t.untimed.emit = _ by rw [htt']; rfl
    have hwire : t.wire = t'.wire := show t.untimed.wire = _ by rw [htt']; rfl
    obtain ⟨hemits, hwires, hobserve⟩ := ih htt' (sessionAfter s e t.emit cur)
    refine ⟨?_, ?_, ?_⟩
    · rw [emits_cons ht, emits_cons ht', hemit, hemits]
    · rw [wires_cons ht, wires_cons ht', hwire, hwires]
    · rw [observeFrom_cons cur ht, observeFrom_cons cur ht', hobserve, hemit, sessionAfter_congr hcfg]

/-- Settles O51: DESELECT leaves states that agree on all that meanings read. -/
theorem deselectForgetsTheSession : Obligations.DeselectForgetsTheSession := by
  intro s s' es hmask hanalog htsel hext hcfg htables
  have hsame : s.deselected.untimed = s'.deselected.untimed := by
    simp [State.deselected, State.untimed, State.sessionReset, State.silent, hmask, hanalog, htsel, hext, hcfg, htables]
  obtain ⟨hemits, hwires, hobserve⟩ := shows_eq_of_untimed_eq hsame (.select :: es) none
  have hd := deliver_deselect_next s
  have hd' := deliver_deselect_next s'
  refine ⟨?_, ?_, ?_⟩
  · rw [emits_cons hd, emits_cons hd', hemits]
    rfl
  · rw [wires_cons hd, wires_cons hd', hwires]
    rfl
  · rw [observe, observe, observeFrom_deselect none hd, observeFrom_deselect none hd', observe, observe, hobserve]

/-! ### One session -/

theorem hostBytes_cons (e : Event) (es : List Event) : hostBytes (e :: es) = hostBytes [e] ++ hostBytes es := by
  rw [hostBytes, hostBytes, hostBytes, ← List.filterMap_append, List.singleton_append]

theorem snapshots_cons (e : Event) (es : List Event) : snapshots (e :: es) = snapshots [e] ++ snapshots es := by
  rw [snapshots, snapshots, snapshots, ← List.filterMap_append, List.singleton_append]

/-- Only a host byte is answered (R71). -/
theorem emit_eq_none_of_not_rx {s t : State} {e : Event} (he : ∀ b, e ≠ .rx b) (h : deliver e s = .next t) :
    t.emit = none := by
  cases e with
  | rx b => exact absurd rfl (he b)
  | snap raw =>
    rw [deliver_snap_next] at h
    cases h
    cases hcfg : s.cfgDone <;> simp [State.snapped, State.configured, hcfg]
  | por | select | deselect => cases h; rfl

/-- What an event shows holds its byte. -/
theorem filterMap_host_observed (s : State) (e : Event) (m : Option Emit) :
    (observed s e m).toList.filterMap Observed.host = hostBytes [e] := by
  cases e with
  | snap raw => cases hcfg : s.cfgDone <;> simp [observed, hcfg, Observed.host, hostBytes]
  | _ => rfl

/-- What an event shows holds its emit. -/
theorem filterMap_output_observed {s t : State} {e : Event} (h : deliver e s = .next t) :
    (observed s e t.emit).toList.filterMap Observed.output = t.emit.toList := by
  cases e with
  | rx b => cases t.emit <;> rfl
  | snap raw =>
    rw [emit_eq_none_of_not_rx (by simp) h]
    cases hcfg : s.cfgDone <;> simp [observed, hcfg, Observed.output]
  | por | select | deselect => rw [emit_eq_none_of_not_rx (by simp) h]; rfl

/-- What an event shows on a configured core holds its snapshot. -/
theorem filterMap_snapshot_observed {s : State} (hcfg : s.cfgDone = true) (e : Event) (m : Option Emit) :
    (observed s e m).toList.filterMap Observed.snapshot = snapshots [e] := by
  cases e with
  | snap raw => rw [observed, hcfg]; rfl
  | _ => rfl

/-- A session in progress goes on to the next DESELECT and shows what its events show. -/
theorem exists_observation (s : State) {es : List Event} (rest : List Event) (hdes : Event.deselect ∉ es) :
    ∃ o u, runEvents s (es ++ [.deselect]) = some u
      ∧ (∀ o₀, observeFrom s (some o₀) (es ++ .deselect :: rest) = (o₀ ++ o) :: observe u rest)
      ∧ o.filterMap Observed.host = hostBytes es
      ∧ o.filterMap Observed.output = emits s es
      ∧ (s.cfgDone = true → Event.por ∉ es → o.filterMap Observed.snapshot = snapshots es) := by
  induction es generalizing s with
  | nil =>
    refine ⟨[], s.deselected, rfl, fun o₀ => ?_, rfl, rfl, fun _ _ => rfl⟩
    rw [List.nil_append, observeFrom_deselect _ (deliver_deselect_next s), List.append_nil]
    rfl
  | cons e es ih =>
    obtain ⟨hne, hdes⟩ := List.ne_and_not_mem_of_not_mem_cons hdes
    obtain ⟨t, ht⟩ := deliver_next e s
    obtain ⟨o, u, hu, hobserve, hhost, houtput, hsnapshot⟩ := ih t hdes
    refine ⟨(observed s e t.emit).toList ++ o, u, ?_, fun o₀ => ?_, ?_, ?_, fun hcfg hpor => ?_⟩
    · rw [List.cons_append, runEvents_cons ht, hu]
    · rw [List.cons_append, observeFrom_inside o₀ hne.symm ht, hobserve, List.append_assoc]
    · rw [List.filterMap_append, filterMap_host_observed, hhost, ← hostBytes_cons]
    · rw [List.filterMap_append, filterMap_output_observed ht, houtput, emits_cons ht]
    · obtain ⟨hne, hpor⟩ := List.ne_and_not_mem_of_not_mem_cons hpor
      rw [List.filterMap_append, filterMap_snapshot_observed hcfg,
        hsnapshot (deliver_keeps_cfgDone hne.symm ht hcfg) hpor, ← snapshots_cons]

/-- A SELECT outside a session begins one that has shown nothing yet. -/
theorem observe_select (s : State) (es : List Event) :
    observe s (.select :: es) = observeFrom s.selected (some []) es := by
  rw [observe, observeFrom_cons none (deliver_select_next s)]
  rfl

/-- Settles O59: the session a SELECT begins is carried to the next DESELECT; of two snapshots on a core before mode
selection the first only configures it. -/
theorem sessionIsWhatLiesBetweenSelectAndDeselect : Obligations.SessionIsWhatLiesBetweenSelectAndDeselect := by
  refine ⟨fun s es rest hdes => ?_, fun s raw raw' rest hcfg => ?_⟩
  · obtain ⟨o, u, hu, hobserve, hhost, houtput, hsnapshot⟩ := exists_observation s.selected rest hdes
    refine ⟨o, u, ?_, ?_, hhost, ?_, hsnapshot⟩
    · rw [runEvents_cons (deliver_select_next s), hu]
    · rw [observe_select, hobserve, List.nil_append]
    · rw [houtput, emits_cons (deliver_select_next s)]
      rfl
  · have hsel : s.selected.cfgDone = false := hcfg
    have hmode := deliver_snap_configured raw hsel
    have hpub := deliver_snap_published (s := s.selected.configured raw) raw' rfl
    refine ⟨((s.selected.configured raw).published raw').silent.deselected, ?_, ?_⟩
    · rw [runEvents_cons (deliver_select_next s), runEvents_cons hmode, runEvents_cons hpub]
      rfl
    · rw [observe_select, observeFrom_inside _ (by simp) hmode, observeFrom_inside _ (by simp) hpub,
        observeFrom_deselect _ (deliver_deselect_next _), observed, hsel]
      rfl

/-! ### The wire -/

/-- An accepted byte is answered once, and the host receives in that exchange what TXBUF held before it (R156). -/
theorem exists_emit_of_deliver_rx {s t : State} {b : Byte} (hrx : s.rxEnabled = true)
    (ht : deliver (.rx b) s = .next t) :
    ∃ m, t.emit = some m ∧ t.txbuf = m.r ∧ t.wire = some s.txbuf ∧ t.rxEnabled = true := by
  obtain ⟨r, a, heq⟩ := exists_accept_of_deliver_rx hrx ht
  rw [heq]
  exact ⟨⟨r, a⟩, rfl, rfl, rfl, hrx⟩

/-- Each accepted byte of a run is answered once, and what the host receives is TXBUF and then the responses, one exchange
late (R156). -/
theorem wires_map_rx {s : State} (hrx : s.rxEnabled = true) (bs : List Byte) :
    wires s (bs.map Event.rx) = (s.txbuf :: (emits s (bs.map Event.rx)).map Emit.r).take bs.length
      ∧ (emits s (bs.map Event.rx)).length = bs.length := by
  induction bs generalizing s with
  | nil => exact ⟨rfl, rfl⟩
  | cons b bs ih =>
    obtain ⟨t, ht⟩ := deliver_next (.rx b) s
    obtain ⟨m, hemit, htx, hwire, hrx'⟩ := exists_emit_of_deliver_rx hrx ht
    obtain ⟨hwires, hlen⟩ := ih hrx'
    rw [List.map_cons, wires_cons ht, emits_cons ht, hemit, hwire, hwires, htx]
    exact ⟨rfl, congrArg (· + 1) hlen⟩

/-- Settles O56: the lag of the wire, and TXBUF of an idle core. -/
theorem wireLagsOneExchange : Obligations.WireLagsOneExchange := by
  intro s bs hrx
  obtain ⟨hwires, hlen⟩ := wires_map_rx hrx bs
  refine ⟨hwires, hlen, fun hs hst => ?_⟩
  obtain ⟨-, -, -, htx, -⟩ := hs.idleHeld hst
  exact htx

/-! ### Scripts -/

/-- Every button has its bit in the 16 of a snapshot (R75). -/
theorem button_bit_lt (btn : Button) : btn.bit < 16 := by
  cases btn <;> decide

/-- The buttons of a HOLD, added to a snapshot one by one (R88). -/
theorem getLsbD_foldl_or_bit (bs : List Button) (w : Snapshot) (i : Nat) :
    (bs.foldl (fun w btn => w ||| (1#16 <<< btn.bit)) w).getLsbD i
      = (w.getLsbD i || bs.any fun btn => decide (btn.bit = i)) := by
  induction bs generalizing w with
  | nil => simp
  | cons btn bs ih =>
    rw [List.foldl_cons, ih, BitVec.getLsbD_or, ← BitVec.twoPow_eq, BitVec.getLsbD_twoPow,
      decide_eq_true (button_bit_lt btn), Bool.true_and, List.any_cons, Bool.or_assoc]

/-- Settles O60: HOLD complements the buttons it collects; the polls are written out by their definition. -/
theorem scriptPseudoEvents : Obligations.ScriptPseudoEvents := by
  refine ⟨fun bs => ⟨_, rfl, fun i hi => ?_, rfl⟩, rfl, List.replicate 19 (.rx 0x00#8), rfl, rfl⟩
  rw [BitVec.getLsbD_not, decide_eq_true hi, Bool.true_and, Bool.not_eq_false', getLsbD_foldl_or_bit]
  simp

end Sys2Proof.Machine
end

section
/-! PROOFS. The response frame (`20_memory.md` R56, R57): an accepted byte takes the next position of it, and a session
emits it whatever publishes fall in between. -/

namespace Sys2Proof.Machine

/-! ### The position of a state in the frame -/

/-- A state with a position is inside the frame, or it is in DONE and past it (R57). -/
theorem State.Inv.framePos_cases {s : State} (h : s.Inv) {p : Nat} (hpos : s.framePos = some p) :
    p < s.lenFrame ∨ (s.st = .done ∧ p = s.lenFrame) := by
  have hfit := h.counters
  have hlen : 4 ≤ s.lenFrame := by unfold State.lenFrame; split <;> omega
  have hlenExt : s.ext = true → s.lenFrame = 20 := fun hext => by rw [State.lenFrame, if_pos hext]
  cases hst : s.st <;> simp only [State.framePos, hst, Option.some.injEq, reduceCtorEq] at hpos <;>
    simp only [State.CountersFit, hst] at hfit
  case idle | ready | sendLo | sendHi => left; omega
  case sticks =>
    obtain ⟨hpos, hle, -, hext⟩ := hfit
    have := hlenExt hext
    left; omega
  case analog =>
    obtain ⟨-, hle, hext⟩ := hfit
    have := hlenExt hext
    left; omega
  case done => exact .inr ⟨rfl, hpos.symm⟩

/-- An accepted byte leaves what the frame is made of (R56). -/
theorem frame_registers_of_deliver_rx {s t : State} {b : Byte} (hrx : s.rxEnabled = true)
    (ht : deliver (.rx b) s = .next t) :
    t.ext = s.ext ∧ t.btnmask = s.btnmask ∧ t.analog = s.analog ∧ t.tsel = s.tsel ∧ t.tables = s.tables := by
  obtain ⟨r, a, heq⟩ := exists_accept_of_deliver_rx hrx ht
  rw [heq]
  exact ⟨rfl, rfl, rfl, rfl, rfl⟩

/-- The fourth button byte leads to the first stick byte or past the base frame (R147). -/
theorem framePos_after_sendHi {s : State} (h : s.CountersFit) (hs : s.st = .sendHi) (r : Byte) :
    State.framePos { s.accept r true with st := if s.ext then .sticks else .done } = some 4 := by
  simp only [State.CountersFit, hs] at h
  obtain ⟨hstick, -⟩ := h
  cases hext : s.ext <;> simp [State.framePos, State.lenFrame, hext, hstick]

/-- A stick byte leads to the next position, the fourth one to the first channel (R148). -/
theorem framePos_after_stick {s : State} (h : s.CountersFit) (hs : s.st = .sticks) (r : Byte) :
    State.framePos { s.accept r true with
      stickRem := s.stickRem - 1#3
      st := if s.stickRem - 1#3 = 0#3 then .analog else s.st } = some (4 + (4 - s.stickRem.toNat) + 1) := by
  simp only [State.CountersFit, hs] at h
  obtain ⟨hpos, hle, hsent, -⟩ := h
  have hpred := stickRem_pred hpos
  by_cases hlast : s.stickRem - 1#3 = 0#3
  · have hzero : (s.stickRem - 1#3).toNat = 0 := by rw [hlast]; rfl
    simp only [State.framePos, if_pos hlast, State.accept_abSent, hsent, Option.some.injEq, BitVec.toNat_ofNat]
    omega
  · simp only [State.framePos, if_neg hlast, hs, Option.some.injEq]
    omega

/-- An analog byte leads to the next position, the twelfth one past the extended frame (R149). -/
theorem framePos_after_analog {s : State} (h : s.CountersFit) (hs : s.st = .analog) (r : Byte) :
    State.framePos { s.accept r true with
      abSent := s.abSent + 1#4
      st := if s.abSent + 1#4 = nAnalogCount then .done else s.st } = some (8 + s.abSent.toNat + 1) := by
  simp only [State.CountersFit, hs] at h
  obtain ⟨-, hle, hext⟩ := h
  have hsucc := abSent_succ hle
  by_cases hlast : s.abSent + 1#4 = nAnalogCount
  · have htwelve : (s.abSent + 1#4).toNat = 12 := by rw [hlast]; rfl
    simp only [State.framePos, if_pos hlast, State.lenFrame, State.accept_ext, hext, if_true, Option.some.injEq]
    omega
  · simp only [State.framePos, if_neg hlast, hs, Option.some.injEq]
    omega

/-- Between the button bytes and the channels the frame has neutral stick bytes (R56). -/
theorem State.frameByte_stick (s : State) {p : Nat} (h4 : 4 ≤ p) (h8 : p < 8) :
    s.frameByte p = params.stickNeutral := by
  rw [State.frameByte, if_neg (by omega), if_neg (by omega), if_neg (by omega), if_neg (by omega), if_pos h8]

/-- After the stick bytes the frame has the channels (R56). -/
theorem State.frameByte_analog (s : State) (c : Nat) : s.frameByte (8 + c) = analogAt s.analog c := by
  rw [State.frameByte, if_neg (by omega), if_neg (by omega), if_neg (by omega), if_neg (by omega), if_neg (by omega),
    Nat.add_sub_cancel_left]

/-- Inside the frame an admitted byte is answered with the byte of its position, acknowledged, and moves on by one. -/
theorem deliver_rx_in_frame {s t : State} {b : Byte} {p : Nat} (hs : s.Inv) (hrx : s.rxEnabled = true)
    (hpos : s.framePos = some p) (hlt : p < s.lenFrame) (hadmit : admitsByte p b)
    (ht : deliver (.rx b) s = .next t) :
    t.emit = some { r := s.frameByte p, a := true } ∧ t.framePos = some (p + 1) := by
  obtain ⟨hstart, hread⟩ := hadmit
  obtain ⟨hst, -, rfl⟩ | ⟨hst, hb, -⟩ | ⟨hst, -, rfl⟩ | ⟨hst, hb, -⟩ | ⟨hst, rfl⟩ | ⟨hst, rfl⟩ | ⟨hst, rfl⟩ | ⟨hst, rfl⟩
    | ⟨hst | hst, -⟩ := deliver_rx_cases hrx ht
    <;> simp only [State.framePos, hst, Option.some.injEq, reduceCtorEq] at hpos <;> subst hpos
  · exact ⟨rfl, rfl⟩
  · exact absurd (hstart rfl) hb
  · exact ⟨rfl, rfl⟩
  · exact absurd (hread rfl) hb
  · exact ⟨rfl, rfl⟩
  · exact ⟨rfl, framePos_after_sendHi hs.counters hst _⟩
  · have hle := hs.stickRem_pos hst
    rw [s.frameByte_stick (by omega) (by omega)]
    exact ⟨rfl, framePos_after_stick hs.counters hst _⟩
  · rw [s.frameByte_analog]
    exact ⟨rfl, framePos_after_analog hs.counters hst _⟩
  · exact absurd hlt (lt_irrefl _)

/-- Past the frame every byte is answered with silence, and the position stays. -/
theorem deliver_rx_past_frame {s t : State} {b : Byte} {p : Nat} (hs : s.Inv) (hrx : s.rxEnabled = true)
    (hpos : s.framePos = some p) (hle : s.lenFrame ≤ p) (ht : deliver (.rx b) s = .next t) :
    p = s.lenFrame ∧ t.emit = some { r := params.neutral, a := false } ∧ t.framePos = some p := by
  obtain hlt | ⟨hst, hp⟩ := hs.framePos_cases hpos
  · exact absurd hle (Nat.not_le.mpr hlt)
  · rw [deliver_rx_of_done_or_passive b hrx (.inl hst)] at ht
    cases ht
    exact ⟨hp, rfl, hpos⟩

/-- `LEN_FRAME` follows the identity, which no byte changes. -/
theorem lenFrame_of_deliver_rx {s t : State} {b : Byte} (hrx : s.rxEnabled = true)
    (ht : deliver (.rx b) s = .next t) : t.lenFrame = s.lenFrame := by
  obtain ⟨hext, -⟩ := frame_registers_of_deliver_rx hrx ht
  rw [State.lenFrame, State.lenFrame, hext]

/-- Settles O52: the rows of R73 inside the frame, and the row of DONE past it. -/
theorem acceptedByteTakesTheNextFramePosition : Obligations.AcceptedByteTakesTheNextFramePosition := by
  intro s b p hs hrx hpos
  obtain ⟨t, ht⟩ := deliver_next (.rx b) s
  refine ⟨t, ht, fun hlt hadmit => ?_, fun hle => deliver_rx_past_frame hs hrx hpos hle ht⟩
  obtain ⟨hemit, hnext⟩ := deliver_rx_in_frame hs hrx hpos hlt hadmit ht
  exact ⟨hemit, hnext, lenFrame_of_deliver_rx hrx ht⟩

/-! ### The frame sequencer -/

/-- What the frame sequencer does at a position: the frame's byte with acknowledge, past the frame silence (R56, R57). -/
def State.frameEmit (s : State) (p : Nat) : Emit :=
  if p < s.lenFrame then { r := s.frameByte p, a := true } else { r := params.neutral, a := false }

theorem frameRun_rx (s : State) (p : Nat) (b : Byte) (es : List Event) :
    frameRun s p (.rx b :: es) = s.frameEmit p :: frameRun s (p + 1) es := rfl

/-- The registers the frame and a publish read, the others blanked. -/
def State.frameSource (s : State) : State :=
  { State.reset with btnmask := s.btnmask, analog := s.analog, tsel := s.tsel, ext := s.ext, tables := s.tables }

/-- The frame sequencer reads only these registers. -/
theorem frameRun_frameSource (s : State) (p : Nat) (es : List Event) :
    frameRun s.frameSource p es = frameRun s p es := by
  induction es generalizing s p with
  | nil => rfl
  | cons e es ih =>
    cases e with
    | rx b => rw [frameRun_rx, frameRun_rx, ih]; rfl
    | snap raw => exact (ih (s.frameSource.published raw) p).symm.trans (ih (s.published raw) p)
    | por | select | deselect => exact ih s p

theorem frameRun_congr {s s' : State} (h : s.frameSource = s'.frameSource) (p : Nat) (es : List Event) :
    frameRun s p es = frameRun s' p es := by
  rw [← frameRun_frameSource s, h, frameRun_frameSource]

theorem frameSource_of_deliver_rx {s t : State} {b : Byte} (hrx : s.rxEnabled = true)
    (ht : deliver (.rx b) s = .next t) : t.frameSource = s.frameSource := by
  obtain ⟨hext, hmask, hanalog, htsel, htables⟩ := frame_registers_of_deliver_rx hrx ht
  rw [State.frameSource, State.frameSource, hext, hmask, hanalog, htsel, htables]

/-- The grammar admits a list of bytes from a position on (R57). -/
def admitsFrom : Nat → List Byte → Prop
  | _, [] => True
  | p, b :: bs => admitsByte p b ∧ admitsFrom (p + 1) bs

/-- From position 2 on the grammar admits anything (R57). -/
theorem admitsFrom_of_two_le {p : Nat} (hp : 2 ≤ p) (bs : List Byte) : admitsFrom p bs := by
  induction bs generalizing p with
  | nil => trivial
  | cons b bs ih => exact ⟨⟨fun h => by omega, fun h => by omega⟩, ih (by omega)⟩

/-- A well-formed request is admitted from position 0 (R57). -/
theorem admitsFrom_request (bs : List Byte) : admitsFrom 0 (startCmd :: readCmd :: bs) :=
  ⟨⟨fun _ => rfl, fun h => by omega⟩, ⟨fun h => by omega, fun _ => rfl⟩, admitsFrom_of_two_le (le_refl _) bs⟩

/-- The machine emits what the frame sequencer does, from any position on; past the frame its own position stands while
the sequencer's counts on. -/
theorem emits_eq_frameRun {s : State} {p : Nat} {es : List Event} (hs : s.Inv) (hrx : s.rxEnabled = true)
    (hin : insideSession es) (hadmit : admitsFrom p (hostBytes es)) (hpos : s.framePos = some (min p s.lenFrame)) :
    emits s es = frameRun s p es := by
  induction es generalizing s p with
  | nil => rfl
  | cons e es ih =>
    obtain ⟨he, hes⟩ := List.forall_mem_cons.mp hin
    obtain ⟨b, rfl⟩ | ⟨raw, rfl⟩ := he
    · obtain ⟨hb, hadmit⟩ := hadmit
      obtain ⟨t, ht⟩ := deliver_next (.rx b) s
      obtain ⟨-, -, -, -, hrx'⟩ := exists_emit_of_deliver_rx hrx ht
      have hlen := lenFrame_of_deliver_rx hrx ht
      have hstep : t.emit = some (s.frameEmit p) ∧ t.framePos = some (min (p + 1) t.lenFrame) := by
        by_cases hlt : p < s.lenFrame
        · rw [Nat.min_eq_left hlt.le] at hpos
          rw [hlen, Nat.min_eq_left hlt, State.frameEmit, if_pos hlt]
          exact deliver_rx_in_frame hs hrx hpos hlt hb ht
        · rw [Nat.min_eq_right (not_lt.mp hlt)] at hpos
          obtain ⟨-, hemit, hnext⟩ := deliver_rx_past_frame hs hrx hpos le_rfl ht
          rw [hlen, Nat.min_eq_right (by omega), State.frameEmit, if_neg hlt]
          exact ⟨hemit, hnext⟩
      obtain ⟨hemit, hnext⟩ := hstep
      rw [emits_cons ht, hemit, frameRun_rx, ih (hs.deliver ht) hrx' hes hadmit hnext,
        frameRun_congr (frameSource_of_deliver_rx hrx ht)]
      rfl
    · obtain ⟨hcfg, -⟩ := Bool.and_eq_true_iff.mp hrx
      rw [emits_cons (deliver_snap_published raw hcfg), ih (hs.published raw).silent hrx hes hadmit hpos]
      exact frameRun_congr (s := (s.published raw).silent) (s' := s.published raw) rfl p es

/-- An idle core is at position 0 (R57). -/
theorem framePos_of_idle {s : State} (h : s.st = .idle) : s.framePos = some (min 0 s.lenFrame) := by
  rw [State.framePos, h, Nat.zero_min]

/-- Settles O53: from position 0, with the request the grammar asks for. -/
theorem sessionEmitsTheFrame : Obligations.SessionEmitsTheFrame := by
  intro s es bs hs hrx hst hin hbytes
  exact emits_eq_frameRun hs hrx hin (by rw [hbytes]; exact admitsFrom_request bs) (framePos_of_idle hst)

/-! ### A session of bytes alone -/

/-- The response frame of a state (R56). -/
def State.frame (s : State) : List Byte := (List.range s.lenFrame).map s.frameByte

theorem State.length_frame (s : State) : s.frame.length = s.lenFrame := by
  rw [State.frame, List.length_map, List.length_range]

/-- The sequencer over bytes alone goes through the positions. -/
theorem frameRun_map_rx (s : State) (p : Nat) (bs : List Byte) :
    frameRun s p (bs.map Event.rx) = (List.range' p bs.length).map s.frameEmit := by
  induction bs generalizing p with
  | nil => rfl
  | cons b bs ih => rw [List.map_cons, frameRun_rx, ih, List.length_cons, List.range'_succ, List.map_cons]

theorem insideSession_map_rx (bs : List Byte) : insideSession (bs.map Event.rx) := by
  intro e he
  obtain ⟨b, -, rfl⟩ := List.mem_map.mp he
  exact .inl ⟨b, rfl⟩

theorem hostBytes_map_rx (bs : List Byte) : hostBytes (bs.map Event.rx) = bs := by
  rw [hostBytes, List.filterMap_map]
  exact List.filterMap_some

/-- A well-formed request of `n + 2` bytes is answered with the first `n + 2` positions. -/
theorem emits_request {s : State} (hs : s.Inv) (hrx : s.rxEnabled = true) (hst : s.st = .idle) (bs : List Byte) :
    emits s ((startCmd :: readCmd :: bs).map Event.rx) = (List.range (bs.length + 2)).map s.frameEmit := by
  refine (sessionEmitsTheFrame s _ bs hs hrx hst (insideSession_map_rx _) (hostBytes_map_rx _)).trans ?_
  rw [frameRun_map_rx, List.range_eq_range']
  rfl

/-- The positions up to `n` past the frame: the whole frame, acknowledged, and then silence. -/
theorem map_frameEmit_range (s : State) (n : Nat) :
    (List.range (s.lenFrame + n)).map s.frameEmit
      = s.frame.map (fun r => ⟨r, true⟩) ++ List.replicate n ⟨params.neutral, false⟩ := by
  have hin : ∀ p ∈ List.range s.lenFrame, s.frameEmit p = ⟨s.frameByte p, true⟩ :=
    fun p hp => if_pos (List.mem_range.mp hp)
  have hpast : ∀ k ∈ List.range n, (s.frameEmit ∘ (s.lenFrame + ·)) k = ⟨params.neutral, false⟩ :=
    fun k _ => if_neg (Nat.not_lt.mpr (Nat.le_add_right _ k))
  rw [List.range_add, List.map_append, List.map_map, List.map_congr_left hin, List.map_congr_left hpast, State.frame,
    List.map_map, List.map_const', List.length_range]
  rfl

/-- A request that goes `n` bytes past the frame is answered with the frame, acknowledged, and then with silence. -/
theorem emits_request_eq_frame {s : State} (hs : s.Inv) (hrx : s.rxEnabled = true) (hst : s.st = .idle) {bs : List Byte}
    {n : Nat} (hlen : bs.length + 2 = s.lenFrame + n) :
    emits s ((startCmd :: readCmd :: bs).map Event.rx)
      = s.frame.map (fun r => ⟨r, true⟩) ++ List.replicate n ⟨params.neutral, false⟩ := by
  rw [emits_request hs hrx hst, hlen, map_frameEmit_range]

/-- The base frame (R56). -/
theorem State.frame_base {s : State} (h : s.ext = false) :
    s.frame = [params.idBase, dataStart, lowByte s.btnmask, highByte s.btnmask] := by
  have hid : s.frameByte 0 = params.idBase := by rw [State.frameByte, h]; rfl
  rw [State.frame, State.lenFrame, h, ← hid]
  rfl

/-- The extended frame (R56). -/
theorem State.frame_extended {s : State} (h : s.ext = true) :
    s.frame = [params.idExt, dataStart, lowByte s.btnmask, highByte s.btnmask]
      ++ List.replicate 4 params.stickNeutral ++ s.analog.toList := by
  have hid : s.frameByte 0 = params.idExt := by rw [State.frameByte, h]; rfl
  have hchannels : (List.range 12).map (s.frameByte ∘ (8 + ·)) = s.analog.toList := by
    refine List.ext_getElem (by simp) fun c hc _ => ?_
    rw [List.length_map, List.length_range] at hc
    rw [List.getElem_map, List.getElem_range, Function.comp_apply, s.frameByte_analog, analogAt_eq_getElem _ hc,
      Vector.getElem_toList]
  rw [State.frame, State.lenFrame, h, if_pos rfl, List.range_add (n := 8) (m := 12), List.map_append, List.map_map,
    hchannels, ← hid]
  rfl

/-- Settles O54: the frame of either identity, then silence. -/
theorem frameLaw : Obligations.FrameLaw := by
  intro s x y fill rest hs hrx hst hfill
  constructor
  · intro hext
    have hlen : (x :: y :: rest).length + 2 = s.lenFrame + rest.length := by
      rw [State.lenFrame, hext, if_neg Bool.false_ne_true, List.length_cons, List.length_cons]
      omega
    exact (emits_request_eq_frame hs hrx hst hlen).trans (by rw [State.frame_base hext, List.map_const']; rfl)
  · intro hext
    have hlen : (x :: y :: (fill ++ rest)).length + 2 = s.lenFrame + rest.length := by
      rw [State.lenFrame, hext, if_pos rfl, List.length_cons, List.length_cons, List.length_append, hfill]
      omega
    refine (emits_request_eq_frame hs hrx hst hlen).trans ?_
    rw [State.frame_extended hext, List.map_const', List.map_append, List.map_append, List.map_replicate]
    rfl

/-- Of the first `n` numbers, those below `k`. -/
theorem countP_lt_range (n k : Nat) : (List.range n).countP (fun p => decide (p < k)) = min n k := by
  induction n with
  | zero => simp
  | succ n ih =>
    rw [List.range_succ, List.countP_append, ih, List.countP_singleton]
    by_cases h : n < k <;> simp only [h, decide_true, decide_false] <;> simp <;> omega

/-- Settles O55: of the positions a request goes through, those inside the frame are acknowledged. -/
theorem acknowledgeCountOfASession : Obligations.AcknowledgeCountOfASession := by
  intro s bs hs hrx hst
  have hack : (fun m : Emit => m.a) ∘ s.frameEmit = fun p => decide (p < s.lenFrame) := by
    funext p
    by_cases hp : p < s.lenFrame <;> simp [State.frameEmit, hp]
  refine ⟨?_, rfl⟩
  rw [← countP_lt_range, ← hack, ← List.countP_map, ← emits_request hs hrx hst]
  rfl

/-- Settles O57: one byte past the frame, whose own exchange carries the frame's last byte. -/
theorem wholeFrameOnTheWire : Obligations.WholeFrameOnTheWire := by
  intro s bs hs hrx hst hlen
  have hemits := emits_request_eq_frame (n := 1) hs hrx hst (congrArg (· + 1) hlen)
  obtain ⟨-, -, -, htx, -⟩ := hs.idleHeld hst
  obtain ⟨hwires, -⟩ := wires_map_rx hrx (startCmd :: readCmd :: bs)
  refine ⟨hwires.trans ?_, ?_⟩
  · have hr : (s.frame.map fun r => (⟨r, true⟩ : Emit)).map Emit.r = s.frame := by
      rw [List.map_map]
      exact List.map_id _
    have hcount : (startCmd :: readCmd :: bs).length = s.frame.length + 1 := by
      rw [s.length_frame, ← hlen]
      rfl
    rw [hemits, htx, hcount, List.take_succ_cons, List.map_append, hr, List.take_left']
    · rfl
    · rfl
  · exact (congrArg List.getLast? hemits).trans List.getLast?_concat

end Sys2Proof.Machine
end
